-- ==== Sys2Proof/Word.lean ====
section
/-! DEFINITION. The word types of the block (00_scope.md R9) and the names of its three signal lines (R11). -/

namespace Sys2Proof

/-- A host register or a command word (R9, R81). -/
abbrev Word := BitVec 32

/-- A device register value, an instruction byte or a data byte (R4, R9). -/
abbrev Byte := BitVec 8

/-- A DAC channel index, 0 to 7, as the field `CH` and the port `chsel` carry it (R9, R26). -/
abbrev Channel := BitVec 3

/-- The three signal lines (R11): chip-select, clock and data. -/
inductive Signal where
  | cs
  | clk
  | data
  deriving DecidableEq, Repr

/-- One bit for each line: all output enables, all output levels, or the levels of all input ports at one instant. -/
structure Levels where
  cs : Bool
  clk : Bool
  data : Bool
  deriving DecidableEq, Repr

end Sys2Proof
end

