-- ==== Sys2Proof/Syntax.lean ====
section
/-! DEFINITION. The instructions: one constructor for each row of spec/opcode_table.json. -/

namespace Sys2Proof

/-- The twelve commands of 30_encoding.md R82, the reserved command words of R83 and R84, and the two wire
instruction bytes of R90 and R91. A field that a command does not read is no operand (R86). -/
inductive Instr where
  /-- `NOP` (R110). -/
  | nop
  /-- `LINE_SET_OE SIG, VAL` (R111). -/
  | lineSetOe (sig : Signal) (val : Bool)
  /-- `LINE_DRIVE SIG, VAL` (R112). -/
  | lineDrive (sig : Signal) (val : Bool)
  /-- `LINE_SENSE SIG` (R113). -/
  | lineSense (sig : Signal)
  /-- `T_INIT` (R150). -/
  | tInit
  /-- `T_START` (R141). -/
  | tStart
  /-- `T_END` (R143). -/
  | tEnd
  /-- `T_WRITE INSTR, DATA` (R155). -/
  | tWrite (instr : Byte) (data : Byte)
  /-- `T_READ INSTR` (R160). -/
  | tRead (instr : Byte)
  /-- `DAC_WRITE CH, REG, DATA` (R186). -/
  | dacWrite (ch : Channel) (reg : Byte) (data : Byte)
  /-- `DAC_READ CH, REG` (R190). -/
  | dacRead (ch : Channel) (reg : Byte)
  /-- `DAC_INIT` (R200). -/
  | dacInit
  /-- A word with `OP` = 0xC (R84); `rest` is bits 31:4. -/
  | reservedOpC (rest : BitVec 28)
  /-- A word with `OP` = 0xD (R84); `rest` is bits 31:4. -/
  | reservedOpD (rest : BitVec 28)
  /-- A word with `OP` = 0xE (R84); `rest` is bits 31:4. -/
  | reservedOpE (rest : BitVec 28)
  /-- A word with `OP` = 0xF (R84); `rest` is bits 31:4. -/
  | reservedOpF (rest : BitVec 28)
  /-- A word with a reserved bit set (R83), whatever its `OP`. -/
  | reservedBits (word : Word)
  /-- The first byte of a write frame on the wire, `000aaaaa` (R90, R92). -/
  | wireWriteInstr (addr : BitVec 5)
  /-- The first byte of a read frame on the wire, `100aaaaa` (R91, R92). -/
  | wireReadInstr (addr : BitVec 5)
  deriving DecidableEq, Repr

end Sys2Proof
end

