-- ==== Sys2Proof/WellFormed.lean ====
section
/-! DEFINITION. Which terms of Instr stand for a word of the hardware. -/

namespace Sys2Proof

/-- The reserved bits of a command word, 7 and 15:11 (R83, R88). -/
def reservedMask : Word := 0x0000F880#32

/-- The same bits in a word's bits 31:4. -/
def reservedRestMask : BitVec 28 := 0x0000F88#28

/-- A word of a reserved `OP` with a reserved bit set is a word of RESERVED_BITS, and every word of RESERVED_BITS has
one set: R88 judges the reserved bits before `OP`. The operands of every other instruction are of a type that holds
nothing else. -/
def Instr.wellFormed : Instr → Bool
  | .reservedOpC rest => rest &&& reservedRestMask == 0#28
  | .reservedOpD rest => rest &&& reservedRestMask == 0#28
  | .reservedOpE rest => rest &&& reservedRestMask == 0#28
  | .reservedOpF rest => rest &&& reservedRestMask == 0#28
  | .reservedBits w => w &&& reservedMask != 0#32
  | .nop => true
  | .lineSetOe _ _ => true
  | .lineDrive _ _ => true
  | .lineSense _ => true
  | .tInit => true
  | .tStart => true
  | .tEnd => true
  | .tWrite _ _ => true
  | .tRead _ => true
  | .dacWrite _ _ _ => true
  | .dacRead _ _ => true
  | .dacInit => true
  | .wireWriteInstr _ => true
  | .wireReadInstr _ => true

end Sys2Proof
end

