-- ==== Sys2Proof/Decode.lean ====
section
/-! DEFINITION. The decoder of 30_encoding.md R88 (command words) and of R92 (wire instruction bytes), and the encoder
written from R81, R82, R90 and R91. -/

namespace Sys2Proof

/-- Why a word stands for no instruction. -/
inductive Reject where
  /-- A line command with `SIG` = 3 (R85): the block answers ILLEGAL_COMMAND. -/
  | signalThree
  /-- A wire byte that is neither `000aaaaa` nor `100aaaaa` (R95): the encoders never make it. -/
  | wireBits
  /-- More bits than a command word has (R89). -/
  | tooLong
  deriving DecidableEq, Repr

/-- The signal of a field `SIG` (R81). -/
def signalOf? (b : BitVec 2) : Option Signal :=
  match b.toNat with
  | 0 => some .cs
  | 1 => some .clk
  | 2 => some .data
  | _ => none

/-- The index of a signal (R11, R81). -/
def signalBits : Signal → BitVec 2
  | .cs => 0#2
  | .clk => 1#2
  | .data => 2#2

/-- `OP` (R81). -/
def opField (w : Word) : BitVec 4 := w.extractLsb' 0 4
/-- `SIG` (R81, R87). -/
def sigField (w : Word) : BitVec 2 := w.extractLsb' 4 2
/-- `VAL` (R81, R87). -/
def valField (w : Word) : Bool := w.getLsbD 6
/-- `CH` (R81, R87). -/
def chField (w : Word) : Channel := w.extractLsb' 8 3
/-- `REG` (R81, R87). -/
def regField (w : Word) : Byte := w.extractLsb' 16 8
/-- `DATA` (R81, R87). -/
def dataField (w : Word) : Byte := w.extractLsb' 24 8
/-- Bits 31:4, all that is not `OP`. -/
def restField (w : Word) : BitVec 28 := w.extractLsb' 4 28

/-- A line command's instruction, rejected where `SIG` names no signal (R85). -/
def withSignal (b : BitVec 2) (mk : Signal → Instr) : Except Reject Instr :=
  match signalOf? b with
  | some sig => .ok (mk sig)
  | none => .error .signalThree

/-- The command a word stands for, total on every word (R88): the reserved bits are judged first, then `OP`, then `SIG`. -/
def decodeCmd (w : Word) : Except Reject Instr :=
  if w &&& reservedMask ≠ 0#32 then .ok (.reservedBits w)
  else
    match (opField w).toNat with
    | 0 => .ok .nop
    | 1 => withSignal (sigField w) fun sig => .lineSetOe sig (valField w)
    | 2 => withSignal (sigField w) fun sig => .lineDrive sig (valField w)
    | 3 => withSignal (sigField w) fun sig => .lineSense sig
    | 4 => .ok .tInit
    | 5 => .ok .tStart
    | 6 => .ok .tEnd
    | 7 => .ok (.tWrite (regField w) (dataField w))
    | 8 => .ok (.tRead (regField w))
    | 9 => .ok (.dacWrite (chField w) (regField w) (dataField w))
    | 10 => .ok (.dacRead (chField w) (regField w))
    | 11 => .ok .dacInit
    | 12 => .ok (.reservedOpC (restField w))
    | 13 => .ok (.reservedOpD (restField w))
    | 14 => .ok (.reservedOpE (restField w))
    | _ => .ok (.reservedOpF (restField w))

/-- The wire instruction a byte stands for (R92); bits 6:5 set are made by no encoder (R95). -/
def decodeWire (b : Byte) : Except Reject Instr :=
  match (b.extractLsb' 5 3).toNat with
  | 0 => .ok (.wireWriteInstr (b.extractLsb' 0 5))
  | 4 => .ok (.wireReadInstr (b.extractLsb' 0 5))
  | _ => .error .wireBits

/-- The two formats of spec/opcode_table.json: a command word, or an instruction byte on the wire. -/
inductive Encoded where
  | cmd (w : Word)
  | wire (b : Byte)
  deriving DecidableEq, Repr

/-- The decoder, on a word of either format. -/
def decode : Encoded → Except Reject Instr
  | .cmd w => decodeCmd w
  | .wire b => decodeWire b

/-- The legal words of R88, in its closed form. -/
def legalWord (w : Word) : Bool :=
  w &&& reservedMask == 0#32 && decide ((opField w).toNat ≤ 11) &&
    !(decide (1 ≤ (opField w).toNat) && decide ((opField w).toNat ≤ 3) && sigField w == 3#2)

/-- The instruction the decoder reads from a row of spec/opcode_table.json: an 8-bit row is a wire byte, any other a
command word. -/
def decodeTableWord (nbits w : Nat) : Option Instr :=
  if nbits = 8 then (decodeWire (BitVec.ofNat 8 w)).toOption
  else if nbits ≤ 32 then (decodeCmd (BitVec.ofNat 32 w)).toOption
  else none

/-! ### The encoder -/

/-- `write_instruction(addr)` (R90): the source's literal. -/
def writeInstruction (addr : Byte) : Byte := addr &&& 0b00011111#8

/-- `read_instruction(addr)` (R91): the source's literal. -/
def readInstruction (addr : Byte) : Byte := 0x80#8 ||| (addr &&& 0b10011111#8)

/-- The command word of R81, bit 31 first: `DDDDDDDD RRRRRRRR 00000CCC 0VSSOOOO`. -/
def cmdWord (op : BitVec 4) (sig : BitVec 2) (val : Bool) (ch : Channel) (reg data : Byte) : Word :=
  data ++ reg ++ 0#5 ++ ch ++ 0#1 ++ BitVec.ofBool val ++ sig ++ op

/-- The word of an instruction, with 0 in every field its command does not read (R97). -/
def encode : Instr → Encoded
  | .nop => .cmd (cmdWord 0x0#4 0#2 false 0#3 0#8 0#8)
  | .lineSetOe sig val => .cmd (cmdWord 0x1#4 (signalBits sig) val 0#3 0#8 0#8)
  | .lineDrive sig val => .cmd (cmdWord 0x2#4 (signalBits sig) val 0#3 0#8 0#8)
  | .lineSense sig => .cmd (cmdWord 0x3#4 (signalBits sig) false 0#3 0#8 0#8)
  | .tInit => .cmd (cmdWord 0x4#4 0#2 false 0#3 0#8 0#8)
  | .tStart => .cmd (cmdWord 0x5#4 0#2 false 0#3 0#8 0#8)
  | .tEnd => .cmd (cmdWord 0x6#4 0#2 false 0#3 0#8 0#8)
  | .tWrite instr data => .cmd (cmdWord 0x7#4 0#2 false 0#3 instr data)
  | .tRead instr => .cmd (cmdWord 0x8#4 0#2 false 0#3 instr 0#8)
  | .dacWrite ch reg data => .cmd (cmdWord 0x9#4 0#2 false ch reg data)
  | .dacRead ch reg => .cmd (cmdWord 0xA#4 0#2 false ch reg 0#8)
  | .dacInit => .cmd (cmdWord 0xB#4 0#2 false 0#3 0#8 0#8)
  | .reservedOpC rest => .cmd (rest ++ 0xC#4)
  | .reservedOpD rest => .cmd (rest ++ 0xD#4)
  | .reservedOpE rest => .cmd (rest ++ 0xE#4)
  | .reservedOpF rest => .cmd (rest ++ 0xF#4)
  | .reservedBits w => .cmd w
  | .wireWriteInstr addr => .wire (writeInstruction (0#3 ++ addr))
  | .wireReadInstr addr => .wire (readInstruction (0#3 ++ addr))

end Sys2Proof
end

