-- ==== Sys2Proof/Config.lean ====
section
/-! DEFINITION. The implementation parameters of 00_scope.md R8, and the free values of the model. -/

namespace Sys2Proof

/-- The parameters of R8. They are fixed when the block is built (R277): State carries them as the field `cfg`,
which no step changes, so that every claim about every state is a claim about every value of them. -/
structure Params where
  /-- `TICK`, the granularity of every wait, in µs. -/
  tickUs : Nat
  /-- `T_HALF`, one half-bit period, in ticks. -/
  tHalf : Nat
  /-- `T_TURN`, the read turnaround delay, in ticks. -/
  tTurn : Nat
  /-- `DATA_INVERT`: a data bit is driven complemented. -/
  dataInvert : Bool
  /-- `N_CH`, the number of DAC channels. -/
  nCh : Nat
  /-- `T_RST`, the width of the DAC's reset pulse, in ticks. -/
  tRst : Nat
  /-- `T_RST_REC`, the wait after that pulse, in ticks. -/
  tRstRec : Nat
  /-- `T_STROBE`, the width of a channel-ready strobe, in ticks. -/
  tStrobe : Nat
  /-- `EXPECTED_REV`. -/
  expectedRev : Byte
  /-- `CMR_INIT_VALUE`. -/
  cmrInit : Byte
  /-- `ADDR_HW_REV` (OPEN). -/
  addrHwRev : Byte
  /-- `ADDR_CLK_MODE` (OPEN). -/
  addrClkMode : Byte
  /-- `ADDR_CMR_I` (OPEN). -/
  addrCmrI : Byte
  /-- `ADDR_CMR_Q` (OPEN). -/
  addrCmrQ : Byte
  /-- `RETIME_MASK` (OPEN). -/
  retimeMask : Byte
  /-- `BASE`, the host address of the register window (OPEN). -/
  base : Nat
  deriving DecidableEq, Repr

/-- The constraints of R277, and of R60 for `BASE`; a channel index has 3 bits (R9), so `N_CH` is at most 8; a tick lasts
some time (log entry 6). -/
abbrev Params.Wf (c : Params) : Prop :=
  1 ≤ c.tickUs ∧ 1 ≤ c.tHalf ∧ c.tHalf < c.tTurn ∧ 1 ≤ c.nCh ∧ c.nCh ≤ 8 ∧ 1 ≤ c.tRst ∧ 1 ≤ c.tStrobe ∧ c.retimeMask ≠ 0#8 ∧
    c.addrHwRev.toNat ≤ 31 ∧ c.addrClkMode.toNat ≤ 31 ∧ c.addrCmrI.toNat ≤ 31 ∧ c.addrCmrQ.toNat ≤ 31 ∧
    c.base % 32 = 0

/-- The OPEN `ADDR_HW_REV`, 0 to 31 (R8, R277, D27). Free value, log entry 3. -/
opaque Config.openAddrHwRev : BitVec 5
/-- The OPEN `ADDR_CLK_MODE` (R8). Free value, log entry 3. -/
opaque Config.openAddrClkMode : BitVec 5
/-- The OPEN `ADDR_CMR_I` (R8). Free value, log entry 3. -/
opaque Config.openAddrCmrI : BitVec 5
/-- The OPEN `ADDR_CMR_Q` (R8). Free value, log entry 3. -/
opaque Config.openAddrCmrQ : BitVec 5
/-- The OPEN `RETIME_MASK` less one: its 255 values stand for the 255 nonzero masks (R8, R277). Free value, log entry 3. -/
opaque Config.openRetime : Fin 255
/-- The OPEN `BASE` over 32: `BASE` is a multiple of 32 (R60). Free value, log entry 3. -/
opaque Config.openWindow : Nat

/-- The level of an input port at the `n`-th sampling instant, where the run's list of draws has run out
(R47: each `sense` is a draw). Free value, log entry 4. -/
opaque Config.freePin : Nat → Signal → Bool

/-- The levels of the three input ports at the `n`-th sampling instant, where the list of draws has run out. -/
def Config.freePins (n : Nat) : Levels :=
  ⟨Config.freePin n .cs, Config.freePin n .clk, Config.freePin n .data⟩

/-- The values and defaults of R8, with the free values above for what R8 marks OPEN. -/
def Params.default : Params where
  tickUs := 1
  tHalf := 100
  tTurn := 200
  dataInvert := true
  nCh := 8
  tRst := 1
  tRstRec := 0
  tStrobe := 1
  expectedRev := 0x0A#8
  cmrInit := 0x80#8
  addrHwRev := 0#3 ++ Config.openAddrHwRev
  addrClkMode := 0#3 ++ Config.openAddrClkMode
  addrCmrI := 0#3 ++ Config.openAddrCmrI
  addrCmrQ := 0#3 ++ Config.openAddrCmrQ
  retimeMask := BitVec.ofNat 8 (Config.openRetime.val + 1)
  base := 32 * Config.openWindow

end Sys2Proof
end

