-- ==== Sys2Proof/Machine/State.lean ====
section
/-! DEFINITION. All state of the block (10_state.md), what the environment supplies to it, and its reset value (R46). -/

namespace Sys2Proof.Machine

/-- The transport state machine (R30). -/
inductive TState where
  | uninitialized
  | idle
  | inFrame
  | fault
  deriving DecidableEq, Repr

/-- The fault codes of R220. The reserved codes 8 to 15 are never produced, so they have no constructor. -/
inductive FaultCode where
  | none
  | lineStuckHigh
  | lineStuckLow
  | lineFloating
  | preconditionViolated
  | revisionMismatch
  | clockRetimeFailure
  | illegalCommand
  deriving DecidableEq, Repr

/-- The precondition reasons of R221. -/
inductive Reason where
  | none
  | state
  | csActive
  | clkHigh
  | dataDrivenHigh
  | postCs
  | postClk
  | postData
  deriving DecidableEq, Repr

/-- The fields of the register `FAULT` (R41); a field not valid for the code is 0. -/
structure FaultRec where
  code : FaultCode
  signal : BitVec 2
  channel : Channel
  reason : Reason
  got : Byte
  deriving DecidableEq, Repr

/-- `FAULT` = 0: no fault. -/
def FaultRec.zero : FaultRec := ⟨.none, 0#2, 0#3, .none, 0#8⟩

/-- `st_rec` (R36): the code and the signal of a failed self-test. -/
structure StRec where
  code : FaultCode
  signal : Signal
  deriving DecidableEq, Repr

/-- What one event changes (R27): a bit of the line register, an auxiliary output, or everything (`rst`). -/
inductive Change where
  | oe (sig : Signal) (v : Bool)
  | out (sig : Signal) (v : Bool)
  | chsel (c : Channel)
  | dacClkEn (v : Bool)
  | dacRst (v : Bool)
  | chReady (c : Channel) (v : Bool)
  | blockReset
  deriving DecidableEq, Repr

/-- One entry of the trace (R27): the time in ticks, the port and its new value. -/
structure Event where
  time : Nat
  change : Change
  deriving DecidableEq, Repr

/-- What reaches the block from outside, one at a time and in order (R20, R67). -/
inductive Input where
  /-- One pulse of `tick` (R23). -/
  | tick
  /-- The port `rst` takes a level (R22, R260). -/
  | rst (level : Bool)
  /-- A host read of `width` bytes at `BASE + off` (R62). -/
  | read (off : Nat) (width : Nat)
  /-- A host write of `width` bytes at `BASE + off` (R62). -/
  | write (off : Nat) (width : Nat) (v : Word)
  /-- The device starts or stops driving `DATA` (R48); the block cannot observe it. -/
  | device (drives : Bool)
  deriving DecidableEq, Repr

/-- One statement of a command's pseudocode (R35). A command is a list of them; the sequencer's position `step`
(R36) is the list of those still to run. `ch` is the channel a DAC command records in a fault (R181). -/
inductive Micro where
  /-- `wait(n)` (R12). -/
  | wait (n : Nat)
  /-- `lines.oe[sig] <- v` (R29). -/
  | setOe (sig : Signal) (v : Bool)
  /-- `lines.out[sig] <- v` (R29). -/
  | setOut (sig : Signal) (v : Bool)
  /-- `state <- t` (R31). -/
  | setState (t : TState)
  /-- The byte to shift out enters `shift` (R133). -/
  | loadShift (b : Byte)
  /-- The first instant of the bit-out cell of bit `i` (R131). -/
  | bitOut (i : BitVec 3)
  /-- `r <- 0` (R134). -/
  | clearShift
  /-- `r[i] <- sense(DATA)` (R132, R134). -/
  | bitIn (i : BitVec 3)
  /-- `RESULT.RDATA <- r`, staged (R160). -/
  | stageRdata
  /-- `RESULT.SENSE <- sense(sig)` (R113). -/
  | senseLine (sig : Signal)
  /-- `fail(ILLEGAL_COMMAND)` (R80). -/
  | illegal
  /-- The rule of state `Fault` (R229). -/
  | faultGate
  /-- `if state != Idle: fail(PRECONDITION_VIOLATED, REASON=STATE)` (R181, R200). -/
  | requireIdle (ch : Option Channel)
  /-- The start preconditions (R140). -/
  | startChecks (ch : Option Channel)
  /-- `if state not in {Idle, InFrame}: fail(…)` (R143). -/
  | endAllowed (ch : Option Channel)
  /-- The three post-checks of `end` (R143). -/
  | postChecks (ch : Option Channel)
  /-- `st_h <- sense(sig)` (R150). -/
  | sampleHigh (sig : Signal)
  /-- `st_l <- sense(sig)` (R150). -/
  | sampleLow (sig : Signal)
  /-- The verdict of the self-test on one signal, and its failure (R150, R151). -/
  | judge (sig : Signal)
  /-- `chsel <- c` (R180). -/
  | setChsel (c : Channel)
  /-- `ch_idx <- c` (R200). -/
  | setChIdx (c : Channel)
  /-- `STATUS.DAC_READY <- v`, staged (R200). -/
  | stageReady (v : Bool)
  /-- `dac_clk_en <- v` (R200). -/
  | setDacClkEn (v : Bool)
  /-- `dac_rst <- v` (R200). -/
  | setDacRst (v : Bool)
  /-- `ch_ready[c] <- v` (R203). -/
  | setChReady (c : Channel) (v : Bool)
  /-- The revision check of channel `c` (R200, R204). -/
  | checkRev (c : Channel)
  /-- The retime check of channel `c` (R200, R204). -/
  | checkRetime (c : Channel)
  deriving DecidableEq, Repr

/-- The state of the block, and what its environment supplies. -/
structure State where
  /-- The parameters (R8), fixed for the block (R277). -/
  cfg : Params
  /-- `lines.oe` (R28). -/
  oe : Levels
  /-- `lines.out` (R28). -/
  out : Levels
  /-- `state` (R30). -/
  state : TState
  /-- `cur_cmd` (R36), read back as `CMD` (R38). -/
  curCmd : Word
  /-- `STATUS.BUSY` (R39). -/
  busy : Bool
  /-- `step` (R36): the statements of the running command that are still to run. -/
  todo : List Micro
  /-- `wait_cnt` (R36): ticks left in the current `wait`. -/
  waitCnt : Nat
  /-- `shift` (R36). -/
  shift : Byte
  /-- `bit_idx` (R36). -/
  bitIdx : BitVec 3
  /-- `st_h` (R36). -/
  stH : Bool
  /-- `st_l` (R36). -/
  stL : Bool
  /-- `st_rec` (R36). -/
  stRec : StRec
  /-- `ch_idx` (R36). -/
  chIdx : Channel
  /-- `state_at_accept` (R225). -/
  stateAtAccept : TState
  /-- `RESULT.RDATA` staged by the running command (R160, R225). -/
  stagedRdata : Option Byte
  /-- `STATUS.DAC_READY` staged by the running command (R200, R225). -/
  stagedReady : Option Bool
  /-- `STATUS.ERR` (R39). -/
  err : Bool
  /-- `STATUS.OVERRUN` (R39). -/
  overrun : Bool
  /-- `STATUS.DAC_READY` (R39). -/
  dacReady : Bool
  /-- `RESULT.RDATA` (R40). -/
  rdata : Byte
  /-- `RESULT.SENSE` (R40). -/
  senseBit : Bool
  /-- `FAULT` (R41). -/
  fault : FaultRec
  /-- The output `chsel` (R26). -/
  chsel : Channel
  /-- The output `dac_clk_en` (R20). -/
  dacClkEn : Bool
  /-- The output `dac_rst` (R20). -/
  dacRst : Bool
  /-- The outputs `ch_ready` (R20). -/
  chReady : BitVec 8
  /-- The tick count (R13). -/
  time : Nat
  /-- The input port `rst` (R22). -/
  rst : Bool
  /-- The word the last host read returned on the host bus (R20, R62). -/
  busData : Word
  /-- The trace of R27, newest event first. The model's own record. -/
  trace : List Event
  /-- The times at which both sides came to drive `DATA` (R48), newest first. The model's own record. -/
  contention : List Nat
  /-- The device drives `DATA` now (R48). The environment's. -/
  deviceDrives : Bool
  /-- The inputs still to come, in order (R67); when none is left, time passes. The environment's. -/
  inputs : List Input
  /-- The levels of the input ports at the coming sampling instants (R47). The environment's. -/
  draws : List Levels
  /-- How many sampling instants have been. The model's own: it indexes the free value `Config.freePins`. -/
  drawCount : Nat
  deriving DecidableEq, Repr

/-- The block never stops with a fault: a failing command is a next state with a record in `FAULT` (R226), and every
behaviour the spec leaves open is a value (93_implementation_defined.md). The type has no constructor; that is safe. -/
inductive Fault where
  deriving DecidableEq, Repr

/-- Why a step has no meaning. -/
inductive Refusal where
  /-- `exec`, for an instruction without a meaning. Safe. -/
  | notModelled (mnemonic : String)
  /-- The host window, for an access that is not 32 bits wide or not at a multiple of 4 (R63, I7: "a model refuses it
  (no step)"). Safe: the spec gives no behaviour. -/
  | accessNotAdmitted
  /-- The host window, for an offset of 32 or more: such an address is not the block's (R60). Safe: the spec gives no
  behaviour. -/
  | outsideWindow
  deriving DecidableEq, Repr

/-- The state after `rst` (R46), with the default parameters (R8). The values of `shift`, `bit_idx`, `st_h`, `st_l` and
`ch_idx`, which R46 leaves unspecified, of `state_at_accept` and of the host bus are the model's (log entry 5). -/
def State.reset : State where
  cfg := Params.default
  oe := ⟨false, false, false⟩
  out := ⟨false, false, false⟩
  state := .uninitialized
  curCmd := 0#32
  busy := false
  todo := []
  waitCnt := 0
  shift := 0#8
  bitIdx := 0#3
  stH := false
  stL := false
  stRec := ⟨.none, .cs⟩
  chIdx := 0#3
  stateAtAccept := .uninitialized
  stagedRdata := none
  stagedReady := none
  err := false
  overrun := false
  dacReady := false
  rdata := 0#8
  senseBit := false
  fault := FaultRec.zero
  chsel := 0#3
  dacClkEn := false
  dacRst := false
  chReady := 0#8
  time := 0
  rst := false
  busData := 0#32
  trace := []
  contention := []
  deviceDrives := false
  inputs := []
  draws := []
  drawCount := 0

end Sys2Proof.Machine
end

