-- ==== Sys2Proof/Machine/Operands.lean ====
section
/-! DEFINITION. Operands: the bits of a level triple and of a byte, the input ports at a sampling instant, and the
orders in which bits and channels are taken. -/

namespace Sys2Proof

/-- The bit of one signal. -/
def Levels.get (l : Levels) : Signal → Bool
  | .cs => l.cs
  | .clk => l.clk
  | .data => l.data

/-- A read-modify-write of one bit (R29). -/
def Levels.set (l : Levels) (sig : Signal) (v : Bool) : Levels :=
  match sig with
  | .cs => { l with cs := v }
  | .clk => { l with clk := v }
  | .data => { l with data := v }

/-- The three bits as a register group, bit `k` for signal index `k` (R42). -/
def Levels.bits (l : Levels) : BitVec 3 :=
  BitVec.ofBool l.data ++ BitVec.ofBool l.clk ++ BitVec.ofBool l.cs

/-- `b[i] <- v` for a byte (R12). -/
def setBit (b : Byte) (i : BitVec 3) (v : Bool) : Byte :=
  bif v then b ||| (1#8 <<< i.toNat) else b &&& ~~~(1#8 <<< i.toNat)

/-- `for i = 7 downto 0` (R133, R134). -/
def bitsDown : List (BitVec 3) := [7#3, 6#3, 5#3, 4#3, 3#3, 2#3, 1#3, 0#3]

/-- The channels 0 to `n` - 1 in order: `for c in 0..8` (R10, R200) with `N_CH` = 8. -/
def channelsBelow (n : Nat) : List Channel := (List.range n).map (BitVec.ofNat 3)

namespace Machine

/-- The levels of the input ports at the next sampling instant (R25, R47): a draw of the environment's, or the free
value where no draw is left (log entry 4). -/
def State.pins (s : State) : Levels :=
  match s.draws with
  | [] => Config.freePins s.drawCount
  | d :: _ => d

/-- The state after a sampling instant. Only the environment's draws move on: `sense` changes no state (R25). -/
def State.sampled (s : State) : State :=
  { s with draws := s.draws.tail, drawCount := s.drawCount + 1 }

end Machine

end Sys2Proof
end

