-- ==== Sys2Proof/Machine/Flags.lean ====
section
/-! DEFINITION. The host registers as words (R39 to R43), the fault records, and the checks that raise a fault. -/

namespace Sys2Proof.Machine

/-! ### Register words -/

/-- `STATUS.STATE` (R30). -/
def TState.bits : TState → BitVec 2
  | .uninitialized => 0#2
  | .idle => 1#2
  | .inFrame => 2#2
  | .fault => 3#2

/-- `FAULT.CODE` (R220). -/
def FaultCode.bits : FaultCode → BitVec 4
  | .none => 0#4
  | .lineStuckHigh => 1#4
  | .lineStuckLow => 2#4
  | .lineFloating => 3#4
  | .preconditionViolated => 4#4
  | .revisionMismatch => 5#4
  | .clockRetimeFailure => 6#4
  | .illegalCommand => 7#4

/-- `FAULT.REASON` (R221). -/
def Reason.bits : Reason → BitVec 3
  | .none => 0#3
  | .state => 1#3
  | .csActive => 2#3
  | .clkHigh => 3#3
  | .dataDrivenHigh => 4#3
  | .postCs => 5#3
  | .postClk => 6#3
  | .postData => 7#3

/-- The register `FAULT` (R41). -/
def FaultRec.word (r : FaultRec) : Word :=
  0#8 ++ r.got ++ 0#4 ++ r.reason.bits ++ r.channel ++ r.signal ++ r.code.bits

/-- The register `STATUS` (R39). -/
def State.statusWord (s : State) : Word :=
  0#26 ++ BitVec.ofBool s.dacReady ++ BitVec.ofBool s.overrun ++ BitVec.ofBool s.err ++ s.state.bits ++
    BitVec.ofBool s.busy

/-- The register `RESULT` (R40). -/
def State.resultWord (s : State) : Word :=
  0#23 ++ BitVec.ofBool s.senseBit ++ s.rdata

/-- The register `LINES` (R42), with the levels of the input ports at the instant of the read. -/
def State.linesWord (s : State) (pins : Levels) : Word :=
  0#21 ++ pins.bits ++ 0#1 ++ s.out.bits ++ 0#1 ++ s.oe.bits

/-- The register `AUX` (R43). -/
def State.auxWord (s : State) : Word :=
  0#8 ++ s.chReady ++ 0#6 ++ BitVec.ofBool s.dacRst ++ BitVec.ofBool s.dacClkEn ++ 0#5 ++ s.chsel

/-! ### Fault records (R41, R220) -/

/-- The channel field of a fault: the channel of a DAC command, 0 for any other command (R41). -/
def channelField : Option Channel → Channel
  | some c => c
  | none => 0#3

/-- `PRECONDITION_VIOLATED` (R220), with the channel of a DAC command (R181). -/
def FaultRec.precondition (r : Reason) (ch : Option Channel) : FaultRec :=
  ⟨.preconditionViolated, 0#2, channelField ch, r, 0#8⟩

/-- `REVISION_MISMATCH` (R220). -/
def FaultRec.revision (c : Channel) (got : Byte) : FaultRec :=
  ⟨.revisionMismatch, 0#2, c, .none, got⟩

/-- `CLOCK_RETIME_FAILURE` (R220). -/
def FaultRec.retime (c : Channel) (got : Byte) : FaultRec :=
  ⟨.clockRetimeFailure, 0#2, c, .none, got⟩

/-- `ILLEGAL_COMMAND` (R220). -/
def FaultRec.illegal : FaultRec := ⟨.illegalCommand, 0#2, 0#3, .none, 0#8⟩

/-- The record of a failed self-test (R150, R220). -/
def StRec.record (r : StRec) : FaultRec := ⟨r.code, signalBits r.signal, 0#3, .none, 0#8⟩

/-! ### Checks -/

/-- The self-test verdict for one signal (R151), `none` for PASS, from the samples after driving high and low. -/
def classify (high low : Bool) : Option FaultCode :=
  match high, low with
  | true, false => none
  | true, true => some .lineStuckHigh
  | false, false => some .lineStuckLow
  | false, true => some .lineFloating

/-- The line preconditions of `start` (R140, rows 2 to 4), at an instant at which the input ports have levels `p`:
the first that does not hold. -/
def startReason (s : State) (p : Levels) : Option Reason :=
  if ¬(s.oe.cs = true ∧ s.out.cs = true ∧ p.cs = true) then some .csActive
  else if ¬(s.oe.clk = true ∧ s.out.clk = false ∧ p.clk = false) then some .clkHigh
  else if s.oe.data = true ∧ s.out.data = true then some .dataDrivenHigh
  else none

/-- The post-checks of `end` (R143): the first that does not hold. -/
def postReason (s : State) (p : Levels) : Option Reason :=
  if p.cs = false then some .postCs
  else if p.clk = true then some .postClk
  else if s.oe.data = true ∧ s.out.data = true then some .postData
  else none

end Sys2Proof.Machine
end

