-- ==== Sys2Proof/Machine/Ops.lean ====
section
/-! DEFINITION. The named operations: assignments to the ports with their events, completing a command with `ok` and
with `fail`, what each statement of a command does, and running a command's statements up to its next wait. -/

namespace Sys2Proof.Machine

/-! ### Assignments (R27, R29) -/

/-- Every assignment is one event of the trace (R27). -/
def State.emit (c : Change) (s : State) : State :=
  { s with trace := ⟨s.time, c⟩ :: s.trace }

/-- After an assignment to `DATA`'s output enable, or the device's switch: where both sides now drive `DATA`, the model
records it (R48). -/
def State.noteContention (s : State) : State :=
  if s.oe.data = true ∧ s.deviceDrives = true then { s with contention := s.time :: s.contention } else s

/-- `lines.oe[sig] <- v` (R29). -/
def State.setOe (sig : Signal) (v : Bool) (s : State) : State :=
  let t := ({ s with oe := s.oe.set sig v }).emit (.oe sig v)
  match sig with
  | .cs => t
  | .clk => t
  | .data => t.noteContention

/-- `lines.out[sig] <- v` (R29). -/
def State.setOut (sig : Signal) (v : Bool) (s : State) : State :=
  ({ s with out := s.out.set sig v }).emit (.out sig v)

/-- `chsel <- c` (R180). -/
def State.setChsel (c : Channel) (s : State) : State :=
  ({ s with chsel := c }).emit (.chsel c)

/-- `dac_clk_en <- v` (R200). -/
def State.setDacClkEn (v : Bool) (s : State) : State :=
  ({ s with dacClkEn := v }).emit (.dacClkEn v)

/-- `dac_rst <- v` (R200). -/
def State.setDacRst (v : Bool) (s : State) : State :=
  ({ s with dacRst := v }).emit (.dacRst v)

/-- `ch_ready[c] <- v` (R203). -/
def State.setChReady (c : Channel) (v : Bool) (s : State) : State :=
  ({ s with chReady := setBit s.chReady c v }).emit (.chReady c v)

/-! ### Acceptance and completion -/

/-- A command is accepted (R35, R225): the sequencer is busy, and `state_at_accept` is kept. -/
def State.accepted (s : State) : State :=
  { s with busy := true, todo := [], waitCnt := 0, stateAtAccept := s.state, stagedRdata := none, stagedReady := none }

/-- What `ok` and `fail` share (R225, R226): the staged values are committed and the sequencer is idle again. -/
def State.complete (s : State) : State :=
  { s with
    rdata := s.stagedRdata.getD s.rdata
    dacReady := s.stagedReady.getD s.dacReady
    stagedRdata := none
    stagedReady := none
    busy := false
    todo := []
    waitCnt := 0 }

/-- `ok()` (R225). -/
def State.ok (s : State) : State :=
  { s.complete with err := false, fault := if s.stateAtAccept = .fault then s.fault else FaultRec.zero }

/-- `fail(code, info)` (R226): the block's one way to report a fault. Nothing is rolled back, and control goes
nowhere (R230). -/
def State.fail (r : FaultRec) (s : State) : State :=
  { s.complete with err := true, fault := if s.stateAtAccept = .fault then s.fault else r }

/-! ### Statements -/

/-- What one statement leads to: the next statement, a wait, or `fail`. -/
inductive Flow where
  | go (s : State)
  | pause (n : Nat) (s : State)
  | stop (r : FaultRec) (s : State)

/-- The state a statement leaves. -/
def Flow.state : Flow → State
  | .go s => s
  | .pause _ s => s
  | .stop _ s => s

/-- A check: the statements after it run only where it raises nothing (R226). -/
def Flow.check (r : Option FaultRec) (s : State) : Flow :=
  match r with
  | none => .go s
  | some r => .stop r s

/-- The first instant of a bit-out cell (R131): the level first, then the output enable where it was 0. -/
def bitOut (i : BitVec 3) (s : State) : State :=
  let s := { s with bitIdx := i }
  let s := s.setOut .data (s.shift.getLsbD i.toNat ^^ s.cfg.dataInvert)
  if s.oe.data = false then s.setOe .data true else s

/-- The sample of a bit-in cell (R132), direct, into bit `i` of the byte being received (R134). -/
def bitIn (i : BitVec 3) (s : State) : State :=
  { s.sampled with bitIdx := i, shift := setBit s.shift i s.pins.data }

/-- The start preconditions (R140), in their order: `state`, then the lines at one instant. -/
def startChecks (ch : Option Channel) (s : State) : Flow :=
  if s.state ≠ .idle then .stop (.precondition .state ch) s
  else Flow.check ((startReason s s.pins).map fun r => .precondition r ch) s.sampled

/-- The verdict on one signal (R150): where it is not PASS, `st_rec` is written, `state` becomes `Fault` and the command
fails. -/
def judge (sig : Signal) (s : State) : Flow :=
  match classify s.stH s.stL with
  | none => .go s
  | some code => .stop (StRec.record ⟨code, sig⟩) { s with stRec := ⟨code, sig⟩, state := .fault }

/-- What one statement does. -/
def act : Micro → State → Flow
  | .wait n, s => .pause n s
  | .setOe sig v, s => .go (s.setOe sig v)
  | .setOut sig v, s => .go (s.setOut sig v)
  | .setState t, s => .go { s with state := t }
  | .loadShift b, s => .go { s with shift := b }
  | .bitOut i, s => .go (bitOut i s)
  | .clearShift, s => .go { s with shift := 0#8 }
  | .bitIn i, s => .go (bitIn i s)
  | .stageRdata, s => .go { s with stagedRdata := some s.shift }
  | .senseLine sig, s => .go { s.sampled with senseBit := s.pins.get sig }
  | .illegal, s => .stop .illegal s
  | .faultGate, s => if s.state = .fault then .stop s.stRec.record s else .go s
  | .requireIdle ch, s => if s.state ≠ .idle then .stop (.precondition .state ch) s else .go s
  | .startChecks ch, s => startChecks ch s
  | .endAllowed ch, s =>
    if s.state ≠ .idle ∧ s.state ≠ .inFrame then .stop (.precondition .state ch) s else .go s
  | .postChecks ch, s => Flow.check ((postReason s s.pins).map fun r => .precondition r ch) s.sampled
  | .sampleHigh sig, s => .go { s.sampled with stH := s.pins.get sig }
  | .sampleLow sig, s => .go { s.sampled with stL := s.pins.get sig }
  | .judge sig, s => judge sig s
  | .setChsel c, s => .go (s.setChsel c)
  | .setChIdx c, s => .go { s with chIdx := c }
  | .stageReady v, s => .go { s with stagedReady := some v }
  | .setDacClkEn v, s => .go (s.setDacClkEn v)
  | .setDacRst v, s => .go (s.setDacRst v)
  | .setChReady c v, s => .go (s.setChReady c v)
  | .checkRev c, s => if s.shift ≠ s.cfg.expectedRev then .stop (.revision c s.shift) s else .go s
  | .checkRetime c, s => if s.shift &&& s.cfg.retimeMask ≠ 0#8 then .stop (.retime c s.shift) s else .go s

/-- The sequencer (R35): statements run in order within one instant, up to the next wait, a `fail`, or the end of the
command, which is `ok()`. `wait(0)` is no wait (R12). -/
def run : List Micro → State → State
  | [], s => s.ok
  | m :: ms, s =>
    match act m s with
    | .go s' => run ms s'
    | .pause n s' => if n = 0 then run ms s' else { s' with waitCnt := n, todo := ms }
    | .stop r s' => s'.fail r

/-- A command is accepted and runs up to its first wait. -/
def runCommand (ms : List Micro) (s : State) : State :=
  run ms s.accepted

/-- R229 stands before a transport or DAC command's own statements. -/
def gated (ms : List Micro) : List Micro :=
  .faultGate :: ms

/-! ### Time -/

/-- One tick passes (R23, R13). A wait ends on its last tick, and the command goes on. While `rst` is asserted the block
stands still (R260). -/
def tick (s : State) : State :=
  if s.rst = true then s
  else
    let s := { s with time := s.time + 1 }
    if s.busy = true then
      if s.waitCnt ≤ 1 then run s.todo { s with waitCnt := 0, todo := [] }
      else { s with waitCnt := s.waitCnt - 1 }
    else s

/-- The time since reset in µs: each tick is one `TICK` (R8, R13, R23). -/
def State.micros (s : State) : Nat := s.time * s.cfg.tickUs

/-- `n` ticks with no other input between them. -/
def ticks : Nat → State → State
  | 0, s => s
  | n + 1, s => ticks n (tick s)

end Sys2Proof.Machine
end

