-- ==== Sys2Proof/Machine/Transport.lean ====
section
/-! DEFINITION. The Bit-Bang Transport (41_transport.md): bit cycles, framing, the self-test, and its five commands.
A procedure is a list of statements; `ch` is the channel of the DAC command it runs in (R181), if any. -/

namespace Sys2Proof.Machine

/-! ### Bit cycles -/

/-- `shift_out_bit` of bit `i` of the byte in `shift` (R131). -/
def bitOutCell (cfg : Params) (i : BitVec 3) : List Micro :=
  [.bitOut i, .wait cfg.tHalf, .setOut .clk true, .wait cfg.tHalf, .setOut .clk false]

/-- `shift_in_bit` into bit `i` of the byte in `shift` (R132). -/
def bitInCell (cfg : Params) (i : BitVec 3) : List Micro :=
  [.wait cfg.tHalf, .setOut .clk true, .bitIn i, .wait cfg.tHalf, .setOut .clk false]

/-- `send_byte(b)` (R133). -/
def sendByte (cfg : Params) (b : Byte) : List Micro :=
  .loadShift b :: bitsDown.flatMap (bitOutCell cfg)

/-- `recv_byte()` (R134). -/
def recvByte (cfg : Params) : List Micro :=
  .clearShift :: bitsDown.flatMap (bitInCell cfg)

/-! ### Framing -/

/-- `start()` (R141). -/
def startOps (cfg : Params) (ch : Option Channel) : List Micro :=
  [.startChecks ch, .setOut .cs false, .setState .inFrame, .wait (2 * cfg.tHalf)]

/-- `end()` (R143). -/
def endOps (cfg : Params) (ch : Option Channel) : List Micro :=
  [.endAllowed ch, .setOut .cs true, .setOe .cs true, .setOut .clk false, .setOe .clk true, .setOut .data false,
    .wait cfg.tHalf, .setOe .data false, .setState .idle, .postChecks ch]

/-- The frame of a write (R155). -/
def writeFrame (cfg : Params) (ch : Option Channel) (instr data : Byte) : List Micro :=
  startOps cfg ch ++ sendByte cfg instr ++ sendByte cfg data ++ endOps cfg ch

/-- The frame of a read (R160). -/
def readFrame (cfg : Params) (ch : Option Channel) (instr : Byte) : List Micro :=
  startOps cfg ch ++ sendByte cfg instr ++ [.wait cfg.tTurn, .setOe .data false] ++ recvByte cfg ++
    [.stageRdata] ++ endOps cfg ch

/-! ### Self-test -/

/-- The self-test of one signal (R150). -/
def testSignal (cfg : Params) (sig : Signal) : List Micro :=
  [.setOut sig true, .setOe sig true, .wait cfg.tHalf, .sampleHigh sig, .setOut sig false, .wait cfg.tHalf,
    .sampleLow sig, .setOe sig false, .judge sig]

/-! ### Commands -/

/-- R150. -/
def tInitOps (cfg : Params) : List Micro :=
  gated ([.setState .uninitialized, .setOe .cs false, .setOe .clk false, .setOe .data false] ++
    testSignal cfg .cs ++ testSignal cfg .clk ++ testSignal cfg .data ++
    [.setOut .cs true, .setOe .cs true, .setOut .clk false, .setOe .clk true, .setOut .data false, .setState .idle])

/-- R141. -/
def tStartOps (cfg : Params) : List Micro := gated (startOps cfg none)

/-- R143. -/
def tEndOps (cfg : Params) : List Micro := gated (endOps cfg none)

/-- R155. -/
def tWriteOps (cfg : Params) (instr data : Byte) : List Micro := gated (writeFrame cfg none instr data)

/-- R160. -/
def tReadOps (cfg : Params) (instr : Byte) : List Micro := gated (readFrame cfg none instr)

/-- `T_INIT` (R150). -/
def execTInit (s : State) : Host.Outcome State Fault Refusal :=
  .next (runCommand (tInitOps s.cfg) s)

/-- `T_START` (R141). -/
def execTStart (s : State) : Host.Outcome State Fault Refusal :=
  .next (runCommand (tStartOps s.cfg) s)

/-- `T_END` (R143). -/
def execTEnd (s : State) : Host.Outcome State Fault Refusal :=
  .next (runCommand (tEndOps s.cfg) s)

/-- `T_WRITE` (R155): the instruction byte goes out verbatim (R94). -/
def execTWrite (instr data : Byte) (s : State) : Host.Outcome State Fault Refusal :=
  .next (runCommand (tWriteOps s.cfg instr data) s)

/-- `T_READ` (R160): the instruction byte goes out verbatim (R94). -/
def execTRead (instr : Byte) (s : State) : Host.Outcome State Fault Refusal :=
  .next (runCommand (tReadOps s.cfg instr) s)

end Sys2Proof.Machine
end

