-- ==== Sys2Proof/Machine/Dac.lean ====
section
/-! DEFINITION. The DAC Register Protocol (42_dac_protocol.md). -/

namespace Sys2Proof.Machine

/-- `device_write(c, reg, val)` (R181). -/
def deviceWrite (cfg : Params) (c : Channel) (reg val : Byte) : List Micro :=
  [.requireIdle (some c), .setChsel c] ++ writeFrame cfg (some c) (writeInstruction reg) val

/-- `device_read(c, reg)` (R181): the byte read stands in `shift`, and is staged for `RESULT.RDATA` (R160). -/
def deviceRead (cfg : Params) (c : Channel) (reg : Byte) : List Micro :=
  [.requireIdle (some c), .setChsel c] ++ readFrame cfg (some c) (readInstruction reg)

/-- R186. -/
def dacWriteOps (cfg : Params) (ch : Channel) (reg data : Byte) : List Micro := gated (deviceWrite cfg ch reg data)

/-- R190. -/
def dacReadOps (cfg : Params) (ch : Channel) (reg : Byte) : List Micro := gated (deviceRead cfg ch reg)

/-- The bring-up of one channel (R200, step 3). -/
def bringUp (cfg : Params) (c : Channel) : List Micro :=
  [.setChIdx c] ++ deviceRead cfg c cfg.addrHwRev ++ [.checkRev c] ++
    deviceRead cfg c cfg.addrClkMode ++ [.checkRetime c] ++
    deviceWrite cfg c cfg.addrCmrI cfg.cmrInit ++ deviceWrite cfg c cfg.addrCmrQ cfg.cmrInit ++
    [.setChReady c true, .wait cfg.tStrobe, .setChReady c false]

/-- R200. `DAC_READY` is staged as 0 before the `state` check, so that every failure outside state `Fault` commits it
(R205, R226). DEDUCED, log entry 8. -/
def dacInitOps (cfg : Params) : List Micro :=
  gated ([.stageReady false, .requireIdle none, .setDacClkEn true, .setDacRst true, .wait cfg.tRst, .setDacRst false,
    .wait cfg.tRstRec] ++ (channelsBelow cfg.nCh).flatMap (bringUp cfg) ++ [.stageReady true])

/-- `DAC_WRITE` (R186). -/
def execDacWrite (ch : Channel) (reg data : Byte) (s : State) : Host.Outcome State Fault Refusal :=
  .next (runCommand (dacWriteOps s.cfg ch reg data) s)

/-- `DAC_READ` (R190). -/
def execDacRead (ch : Channel) (reg : Byte) (s : State) : Host.Outcome State Fault Refusal :=
  .next (runCommand (dacReadOps s.cfg ch reg) s)

/-- `DAC_INIT` (R200). -/
def execDacInit (s : State) : Host.Outcome State Fault Refusal :=
  .next (runCommand (dacInitOps s.cfg) s)

end Sys2Proof.Machine
end

