-- ==== Sys2Proof/Machine/Line.lean ====
section
/-! DEFINITION. The Line Driver commands (40_line_driver.md). -/

namespace Sys2Proof.Machine

/-- R110. -/
def nopOps : List Micro := []

/-- R111. -/
def lineSetOeOps (sig : Signal) (val : Bool) : List Micro := [.setOe sig val]

/-- R112. -/
def lineDriveOps (sig : Signal) (val : Bool) : List Micro := [.setOut sig val]

/-- R113. -/
def lineSenseOps (sig : Signal) : List Micro := [.senseLine sig]

/-- `NOP` (R110). -/
def execNop (s : State) : Host.Outcome State Fault Refusal :=
  .next (runCommand nopOps s)

/-- `LINE_SET_OE` (R111), allowed in every `state` (R114). -/
def execLineSetOe (sig : Signal) (val : Bool) (s : State) : Host.Outcome State Fault Refusal :=
  .next (runCommand (lineSetOeOps sig val) s)

/-- `LINE_DRIVE` (R112), allowed in every `state` (R114). -/
def execLineDrive (sig : Signal) (val : Bool) (s : State) : Host.Outcome State Fault Refusal :=
  .next (runCommand (lineDriveOps sig val) s)

/-- `LINE_SENSE` (R113), allowed in every `state` (R114). -/
def execLineSense (sig : Signal) (s : State) : Host.Outcome State Fault Refusal :=
  .next (runCommand (lineSenseOps sig) s)

end Sys2Proof.Machine
end

