-- ==== Sys2Proof/Machine/Reserved.lean ====
section
/-! DEFINITION. The reserved command words (R83, R84): each completes at once with ILLEGAL_COMMAND and changes nothing
else (R80). -/

namespace Sys2Proof.Machine

/-- The one statement of an illegal command (R80). -/
def illegalOps : List Micro := [.illegal]

/-- `OP` = 0xC (R84). -/
def execReservedOpC (_rest : BitVec 28) (s : State) : Host.Outcome State Fault Refusal :=
  .next (runCommand illegalOps s)

/-- `OP` = 0xD (R84). -/
def execReservedOpD (_rest : BitVec 28) (s : State) : Host.Outcome State Fault Refusal :=
  .next (runCommand illegalOps s)

/-- `OP` = 0xE (R84). -/
def execReservedOpE (_rest : BitVec 28) (s : State) : Host.Outcome State Fault Refusal :=
  .next (runCommand illegalOps s)

/-- `OP` = 0xF (R84). -/
def execReservedOpF (_rest : BitVec 28) (s : State) : Host.Outcome State Fault Refusal :=
  .next (runCommand illegalOps s)

/-- A reserved bit is set (R83). -/
def execReservedBits (_word : Word) (s : State) : Host.Outcome State Fault Refusal :=
  .next (runCommand illegalOps s)

end Sys2Proof.Machine
end

