-- ==== Sys2Proof/Machine/Wire.lean ====
section
/-! DEFINITION. The wire instruction bytes (R90 to R92). For the block such a byte is the first byte of a frame: it
shifts the byte out (R96, R133) and then goes on with the rest of its command (log entry 2). -/

namespace Sys2Proof.Machine

/-- The sequencer shifts a byte out, before the statements it has still to run. An idle sequencer starts with it, as
with a command of its own. -/
def shiftOutNext (b : Byte) (s : State) : State :=
  let s := if s.busy = true then s else s.accepted
  run (sendByte s.cfg b ++ s.todo) { s with waitCnt := 0, todo := [] }

/-- The first byte of a write frame, `000aaaaa` (R90). -/
def execWireWriteInstr (addr : BitVec 5) (s : State) : Host.Outcome State Fault Refusal :=
  .next (shiftOutNext (writeInstruction (0#3 ++ addr)) s)

/-- The first byte of a read frame, `100aaaaa` (R91). -/
def execWireReadInstr (addr : BitVec 5) (s : State) : Host.Outcome State Fault Refusal :=
  .next (shiftOutNext (readInstruction (0#3 ++ addr)) s)

end Sys2Proof.Machine
end

