-- ==== Sys2Proof/Machine/Dispatch.lean ====
section
/-! DEFINITION. The meaning of each instruction, one arm for each constructor of Instr. -/

namespace Sys2Proof.Machine

def exec (i : Instr) (s : State) : Host.Outcome State Fault Refusal :=
  match i with
  -- 40_line_driver.md
  | .nop => Sys2Proof.Machine.execNop s
  | .lineSetOe sig val => Sys2Proof.Machine.execLineSetOe sig val s
  | .lineDrive sig val => Sys2Proof.Machine.execLineDrive sig val s
  | .lineSense sig => Sys2Proof.Machine.execLineSense sig s
  -- 41_transport.md
  | .tInit => Sys2Proof.Machine.execTInit s
  | .tStart => Sys2Proof.Machine.execTStart s
  | .tEnd => Sys2Proof.Machine.execTEnd s
  | .tWrite instr data => Sys2Proof.Machine.execTWrite instr data s
  | .tRead instr => Sys2Proof.Machine.execTRead instr s
  -- 42_dac_protocol.md
  | .dacWrite ch reg data => Sys2Proof.Machine.execDacWrite ch reg data s
  | .dacRead ch reg => Sys2Proof.Machine.execDacRead ch reg s
  | .dacInit => Sys2Proof.Machine.execDacInit s
  -- 30_encoding.md R83, R84
  | .reservedOpC rest => Sys2Proof.Machine.execReservedOpC rest s
  | .reservedOpD rest => Sys2Proof.Machine.execReservedOpD rest s
  | .reservedOpE rest => Sys2Proof.Machine.execReservedOpE rest s
  | .reservedOpF rest => Sys2Proof.Machine.execReservedOpF rest s
  | .reservedBits word => Sys2Proof.Machine.execReservedBits word s
  -- 30_encoding.md R90, R91
  | .wireWriteInstr addr => Sys2Proof.Machine.execWireWriteInstr addr s
  | .wireReadInstr addr => Sys2Proof.Machine.execWireReadInstr addr s

end Sys2Proof.Machine
end

