-- ==== Sys2Proof/Machine/Bus.lean ====
section
/-! DEFINITION. The host window (20_memory.md), the acceptance of a command (R38), and the other inputs of the block. -/

namespace Sys2Proof.Machine

/-! ### Which accesses are admitted -/

/-- Why an access has no meaning, if it has none: width and alignment (R63), then the window (R60). -/
def accessRefusal (off width : Nat) : Option Refusal :=
  if width ≠ 4 ∨ off % 4 ≠ 0 then some .accessNotAdmitted
  else if 32 ≤ off then some .outsideWindow
  else none

/-- The offset of a host address in the window, where it lies in it (R60). -/
def offsetOf? (cfg : Params) (addr : Nat) : Option Nat :=
  if cfg.base ≤ addr ∧ addr < cfg.base + 32 then some (addr - cfg.base) else none

/-! ### Reads -/

/-- The register at an offset (R37, R62), with the levels of the input ports at the instant of the read. The reserved
offsets read 0 (R44). -/
def registerWord (s : State) (pins : Levels) (off : Nat) : Word :=
  match off with
  | 0x00 => s.curCmd
  | 0x04 => s.statusWord
  | 0x08 => s.resultWord
  | 0x0C => s.fault.word
  | 0x10 => s.linesWord pins
  | 0x14 => s.auxWord
  | _ => 0#32

/-- An admitted host read: the word goes out on the host bus. It has no other effect (R66), but that a read of `LINES`
is a sampling instant of the environment's. -/
def busRead (off : Nat) (s : State) : State :=
  if off = 0x10 then { s.sampled with busData := registerWord s s.pins off }
  else { s with busData := registerWord s s.pins off }

/-! ### Writes -/

/-- A `CMD` write is accepted (R38): the word is kept and its command runs; a word that stands for no instruction is
illegal (R80). -/
def acceptCommand (w : Word) (s : State) : Host.Outcome State Fault Refusal :=
  let s := { s with curCmd := w }
  match decodeCmd w with
  | .ok i => exec i s
  | .error _ => .next (runCommand illegalOps s)

/-- A `CMD` write (R38): accepted, or dropped while a command runs. -/
def writeCmd (w : Word) (s : State) : Host.Outcome State Fault Refusal :=
  if s.busy = true then .next { s with overrun := true } else acceptCommand w s

/-- A `STATUS` write (R39): bit 4 clears `OVERRUN`. -/
def writeStatus (v : Word) (s : State) : State :=
  if v.getLsbD 4 = true then { s with overrun := false } else s

/-- An admitted host write (R62). Any other register ignores it (R44), and so does the block under `rst` (R260). -/
def busWrite (off : Nat) (v : Word) (s : State) : Host.Outcome State Fault Refusal :=
  if s.rst = true then .next s
  else
    match off with
    | 0x00 => writeCmd v s
    | 0x04 => .next (writeStatus v s)
    | _ => .next s

/-! ### Reset and the device -/

/-- `rst` is asserted (R22, R260): every piece of the block's state takes its reset value, and the running command stops.
The parameters, the environment and the model's records stay; the trace gets an entry (log entry 9). -/
def assertRst (s : State) : State :=
  { State.reset with
    cfg := s.cfg
    rst := true
    busData := s.busData
    trace := ⟨s.time, .blockReset⟩ :: s.trace
    contention := s.contention
    deviceDrives := s.deviceDrives
    inputs := s.inputs
    draws := s.draws
    drawCount := s.drawCount }

/-- The port `rst` takes a level. After its release the block does nothing on its own (R261). -/
def setRst (level : Bool) (s : State) : State :=
  if level = true then assertRst s else { s with rst := false }

/-- The device starts or stops driving `DATA` (R48). -/
def setDevice (drives : Bool) (s : State) : State :=
  ({ s with deviceDrives := drives }).noteContention

/-- The block's answer to one input. -/
def react (i : Input) (s : State) : Host.Outcome State Fault Refusal :=
  match i with
  | .tick => .next (tick s)
  | .rst level => .next (setRst level s)
  | .read off width =>
    match accessRefusal off width with
    | some r => .refused r
    | none => .next (busRead off s)
  | .write off width v =>
    match accessRefusal off width with
    | some r => .refused r
    | none => busWrite off v s
  | .device drives => .next (setDevice drives s)

/-- `MemRead(addr, width)` (R62): a host address reaches the register at its offset from `BASE`. -/
def memRead (addr width : Nat) (s : State) : Host.Outcome State Fault Refusal :=
  match offsetOf? s.cfg addr with
  | some off => react (.read off width) s
  | none => .refused .outsideWindow

/-- `MemWrite(addr, width, v)` (R62). -/
def memWrite (addr width : Nat) (v : Word) (s : State) : Host.Outcome State Fault Refusal :=
  match offsetOf? s.cfg addr with
  | some off => react (.write off width v) s
  | none => .refused .outsideWindow

/-- The next input, and the state without it: where none is left, time passes (log entry 1). -/
def nextInput (s : State) : Input × State :=
  match s.inputs with
  | [] => (.tick, s)
  | i :: rest => (i, { s with inputs := rest })

/-- `s` with a write of the command word `w` to `CMD` as its next input, and no command running that would drop it. -/
def withCommand (w : Word) (s : State) : State :=
  { s with
    rst := false
    busy := false
    todo := []
    waitCnt := 0
    stagedRdata := none
    stagedReady := none
    inputs := .write 0x00 4 w :: s.inputs }

/-- `s` with its sequencer at the last tick of a wait, about to shift the byte `b` out. -/
def withWireByte (b : Byte) (s : State) : State :=
  let t := if s.busy = true then s else s.accepted
  { t with rst := false, waitCnt := 1, todo := sendByte t.cfg b ++ t.todo, inputs := .tick :: t.inputs }

end Sys2Proof.Machine
end

