-- ==== Sys2Proof/Machine/Step.lean ====
section
/-! DEFINITION. One step of the machine: the block's answer to its next input. -/

namespace Sys2Proof.Machine

/-- One step: the next input is taken (R67), or a tick passes where none is left. -/
def step (s : State) : Host.Outcome State Fault Refusal :=
  react (nextInput s).1 (nextInput s).2

/-- `s` with an instruction where the block takes its next one: a command word as the coming write to `CMD` (R38), a wire
instruction byte as the next byte the sequencer shifts out. -/
def State.withFetchWord (s : State) (nbits w : Nat) : State :=
  if nbits = 8 then withWireByte (BitVec.ofNat 8 w) s else withCommand (BitVec.ofNat 32 w) s

end Sys2Proof.Machine
end

