-- ==== Sys2Proof/Safety.lean ====
section
/-! DEFINITION. The terms the claims are stated in: the environment's draws by their number, the statements of each
command, the atomic reading of a command that R36 allows, the event tables of 41_transport.md, and the invariant. -/

namespace Sys2Proof.Machine

/-! ### The environment -/

/-- The levels of the input ports at the `k`-th sampling instant from now (R47). -/
def State.pinsAt (s : State) (k : Nat) : Levels :=
  match s.draws.drop k with
  | [] => Config.freePins (s.drawCount + k)
  | d :: _ => d

/-- Eight levels as a byte, the first as bit 7 (R65, R134). -/
def byteOf (f : Nat → Bool) : Byte :=
  BitVec.ofBool (f 0) ++ BitVec.ofBool (f 1) ++ BitVec.ofBool (f 2) ++ BitVec.ofBool (f 3) ++
    BitVec.ofBool (f 4) ++ BitVec.ofBool (f 5) ++ BitVec.ofBool (f 6) ++ BitVec.ofBool (f 7)

/-- The byte on `DATA` at eight sampling instants, from the `k`-th on. -/
def State.byteAt (s : State) (k : Nat) : Byte :=
  byteOf fun j => (s.pinsAt (k + j)).data

/-- The levels that `start` and the post-checks of `end` look for: `CS` reads high, `CLK` reads low (R140, R143). -/
abbrev Quiet (p : Levels) : Prop := p.cs = true ∧ p.clk = false

/-! ### The lines -/

/-- `lines.oe` in the idle configuration (R33). -/
def idleOe : Levels := ⟨true, true, false⟩

/-- `lines.out` in the idle configuration (R33). -/
def idleOut : Levels := ⟨true, false, false⟩

/-- The output side of the start preconditions (R140, rows 2 to 4). -/
abbrev LinesReady (s : State) : Prop :=
  s.oe.cs = true ∧ s.out.cs = true ∧ s.oe.clk = true ∧ s.out.clk = false ∧ ¬(s.oe.data = true ∧ s.out.data = true)

/-- Every precondition of `start` holds (R140). -/
abbrev CanStart (s : State) : Prop :=
  s.state = .idle ∧ LinesReady s ∧ Quiet (s.pinsAt 0)

/-- Chip-select is asserted (R34). -/
abbrev CsAsserted (s : State) : Prop := s.oe.cs = true ∧ s.out.cs = false

/-! ### Commands -/

/-- The statements of each instruction that a host can issue; a wire byte is none. -/
def programOf (cfg : Params) : Instr → List Micro
  | .nop => nopOps
  | .lineSetOe sig val => lineSetOeOps sig val
  | .lineDrive sig val => lineDriveOps sig val
  | .lineSense sig => lineSenseOps sig
  | .tInit => tInitOps cfg
  | .tStart => tStartOps cfg
  | .tEnd => tEndOps cfg
  | .tWrite instr data => tWriteOps cfg instr data
  | .tRead instr => tReadOps cfg instr
  | .dacWrite ch reg data => dacWriteOps cfg ch reg data
  | .dacRead ch reg => dacReadOps cfg ch reg
  | .dacInit => dacInitOps cfg
  | .reservedOpC _ => illegalOps
  | .reservedOpD _ => illegalOps
  | .reservedOpE _ => illegalOps
  | .reservedOpF _ => illegalOps
  | .reservedBits _ => illegalOps
  | .wireWriteInstr _ => []
  | .wireReadInstr _ => []

/-- The twelve commands of R82. -/
def isCommand : Instr → Bool
  | .nop => true
  | .lineSetOe _ _ => true
  | .lineDrive _ _ => true
  | .lineSense _ => true
  | .tInit => true
  | .tStart => true
  | .tEnd => true
  | .tWrite _ _ => true
  | .tRead _ => true
  | .dacWrite _ _ _ => true
  | .dacRead _ _ => true
  | .dacInit => true
  | .reservedOpC _ => false
  | .reservedOpD _ => false
  | .reservedOpE _ => false
  | .reservedOpF _ => false
  | .reservedBits _ => false
  | .wireWriteInstr _ => false
  | .wireReadInstr _ => false

/-- The transport and DAC commands, which R229 names. -/
def isTransport : Instr → Bool
  | .nop => false
  | .lineSetOe _ _ => false
  | .lineDrive _ _ => false
  | .lineSense _ => false
  | .tInit => true
  | .tStart => true
  | .tEnd => true
  | .tWrite _ _ => true
  | .tRead _ => true
  | .dacWrite _ _ _ => true
  | .dacRead _ _ => true
  | .dacInit => true
  | .reservedOpC _ => false
  | .reservedOpD _ => false
  | .reservedOpE _ => false
  | .reservedOpF _ => false
  | .reservedBits _ => false
  | .wireWriteInstr _ => false
  | .wireReadInstr _ => false

/-- The DAC commands (42_dac_protocol.md). -/
def isDac : Instr → Bool
  | .nop => false
  | .lineSetOe _ _ => false
  | .lineDrive _ _ => false
  | .lineSense _ => false
  | .tInit => false
  | .tStart => false
  | .tEnd => false
  | .tWrite _ _ => false
  | .tRead _ => false
  | .dacWrite _ _ _ => true
  | .dacRead _ _ => true
  | .dacInit => true
  | .reservedOpC _ => false
  | .reservedOpD _ => false
  | .reservedOpE _ => false
  | .reservedOpF _ => false
  | .reservedBits _ => false
  | .wireWriteInstr _ => false
  | .wireReadInstr _ => false

/-- The two commands that write the line register on the host's word (R111, R112). -/
def pokesLine : Instr → Bool
  | .nop => false
  | .lineSetOe _ _ => true
  | .lineDrive _ _ => true
  | .lineSense _ => false
  | .tInit => false
  | .tStart => false
  | .tEnd => false
  | .tWrite _ _ => false
  | .tRead _ => false
  | .dacWrite _ _ _ => false
  | .dacRead _ _ => false
  | .dacInit => false
  | .reservedOpC _ => false
  | .reservedOpD _ => false
  | .reservedOpE _ => false
  | .reservedOpF _ => false
  | .reservedBits _ => false
  | .wireWriteInstr _ => false
  | .wireReadInstr _ => false

/-- The sequencer's own fields after a command that was accepted in `state` = `st` has completed. -/
def State.atRest (st : TState) (s : State) : State :=
  { s with busy := false, todo := [], waitCnt := 0, stateAtAccept := st, stagedRdata := none, stagedReady := none }

/-! ### The atomic reading of a command (R36) -/

/-- All statements of a command as one event, with the ticks of its waits added to the time. -/
def atomic : List Micro → State → Flow
  | [], s => .go s
  | m :: ms, s =>
    match act m s with
    | .go s' => atomic ms s'
    | .pause n s' => atomic ms { s' with time := s'.time + n }
    | .stop r s' => .stop r s'

/-- The state a command ends in, read atomically. -/
def finish (ms : List Micro) (s : State) : State :=
  match atomic ms s with
  | .go s' => s'.ok
  | .pause _ s' => s'.ok
  | .stop r s' => s'.fail r

/-- The ticks a command takes, the sum of its waits (R13). -/
def duration : List Micro → State → Nat
  | [], _ => 0
  | m :: ms, s =>
    match act m s with
    | .go s' => duration ms s'
    | .pause n s' => n + duration ms { s' with time := s'.time + n }
    | .stop _ _ => 0

/-! ### Event tables, in time order -/

/-- The events of a bit-out cell that begins at `t` with the pad level `v`; `enable` where the cell also enables `DATA`
(R131, R156). -/
def outCellEvents (T t : Nat) (v enable : Bool) : List Event :=
  ⟨t, .out .data v⟩ :: ((if enable then [⟨t, .oe .data true⟩] else []) ++
    [⟨t + T, .out .clk true⟩, ⟨t + 2 * T, .out .clk false⟩])

/-- The events of a bit-in cell that begins at `t` (R132, R161). -/
def inCellEvents (T t : Nat) : List Event :=
  [⟨t + T, .out .clk true⟩, ⟨t + 2 * T, .out .clk false⟩]

/-- The cells of `n` bits sent most-significant bit first from `t` on (R96, R133); `enable` where `DATA` floats at `t`. -/
def sentEvents (cfg : Params) (t : Nat) (enable : Bool) {n : Nat} (bits : BitVec n) : List Event :=
  (List.range n).flatMap fun k =>
    outCellEvents cfg.tHalf (t + 2 * k * cfg.tHalf) (bits.getMsbD k ^^ cfg.dataInvert) (enable && k == 0)

/-- The events of `end` from `t` on (R143). -/
def endEvents (T t : Nat) : List Event :=
  [⟨t, .out .cs true⟩, ⟨t, .oe .cs true⟩, ⟨t, .out .clk false⟩, ⟨t, .oe .clk true⟩, ⟨t, .out .data false⟩,
    ⟨t + T, .oe .data false⟩]

/-- The events of a write frame accepted at `t` (R156); `enable` where `DATA` floats at `t`. -/
def writeEvents (cfg : Params) (t : Nat) (enable : Bool) (instr data : Byte) : List Event :=
  ⟨t, .out .cs false⟩ :: (sentEvents cfg (t + 2 * cfg.tHalf) enable (instr ++ data) ++
    endEvents cfg.tHalf (t + 34 * cfg.tHalf))

/-- The events of a read frame accepted at `t` (R161); `enable` where `DATA` floats at `t`. -/
def readEvents (cfg : Params) (t : Nat) (enable : Bool) (instr : Byte) : List Event :=
  ⟨t, .out .cs false⟩ :: (sentEvents cfg (t + 2 * cfg.tHalf) enable instr ++
    ⟨t + 18 * cfg.tHalf + cfg.tTurn, .oe .data false⟩ ::
    ((List.range 8).flatMap fun j =>
      inCellEvents cfg.tHalf (t + 18 * cfg.tHalf + cfg.tTurn + 2 * j * cfg.tHalf)) ++
    endEvents cfg.tHalf (t + 34 * cfg.tHalf + cfg.tTurn))

/-- The events of the self-test of one signal from `t` on (R150). -/
def testEvents (T t : Nat) (sig : Signal) : List Event :=
  [⟨t, .out sig true⟩, ⟨t, .oe sig true⟩, ⟨t + T, .out sig false⟩, ⟨t + 2 * T, .oe sig false⟩]

/-- The signals that a self-test has tested when it judges one, in order (R150). -/
def testedSignals : Signal → List Signal
  | .cs => [.cs]
  | .clk => [.cs, .clk]
  | .data => [.cs, .clk, .data]

/-- The events with which `T_INIT` releases all lines at `t` (R150). -/
def releaseEvents (t : Nat) : List Event :=
  [⟨t, .oe .cs false⟩, ⟨t, .oe .clk false⟩, ⟨t, .oe .data false⟩]

/-- The events with which `T_INIT` sets up the idle configuration at `t` (R150). -/
def idleEvents (t : Nat) : List Event :=
  [⟨t, .out .cs true⟩, ⟨t, .oe .cs true⟩, ⟨t, .out .clk false⟩, ⟨t, .oe .clk true⟩, ⟨t, .out .data false⟩]

/-! ### Frames and bring-up -/

/-- The state after a command that failed at its acceptance with a precondition reason, having taken `k` samples: only the
record, `ERR` and the sequencer's own fields differ (R226). -/
def State.failedAtOnce (s : State) (ch : Option Channel) (r : Reason) (k : Nat) : State :=
  { s.atRest s.state with
    err := true
    fault := ⟨.preconditionViolated, 0#2, ch.getD 0#3, r, 0#8⟩
    draws := s.draws.drop k
    drawCount := s.drawCount + k }

/-- The verdict of `end`'s post-checks on the levels it samples (R143). -/
def endVerdict (p : Levels) : Option Reason :=
  if p.cs = false then some .postCs else if p.clk = true then some .postClk else none

/-- The record of that verdict (R220, R221). -/
def endRecord (ch : Option Channel) (p : Levels) : FaultRec :=
  match endVerdict p with
  | none => FaultRec.zero
  | some r => ⟨.preconditionViolated, 0#2, ch.getD 0#3, r, 0#8⟩

/-- The first of the line preconditions of `start` that does not hold (R140, rows 2 to 4), with the levels `p` sampled:
row 2 before row 3 before row 4. -/
abbrev FirstLineFault (s : State) (p : Levels) (r : Reason) : Prop :=
  (r = .csActive ∧ ¬(s.oe.cs = true ∧ s.out.cs = true ∧ p.cs = true)) ∨
  (r = .clkHigh ∧ (s.oe.cs = true ∧ s.out.cs = true ∧ p.cs = true) ∧
    ¬(s.oe.clk = true ∧ s.out.clk = false ∧ p.clk = false)) ∨
  (r = .dataDrivenHigh ∧ (s.oe.cs = true ∧ s.out.cs = true ∧ p.cs = true) ∧
    (s.oe.clk = true ∧ s.out.clk = false ∧ p.clk = false) ∧ s.oe.data = true ∧ s.out.data = true)

/-- The state after a whole frame that passed `start` in `s` and took `d` ticks and `k` samples, with the byte `b` last in
`shift` and the events `evs`. -/
def State.afterFrame (s : State) (ch : Option Channel) (d k : Nat) (b : Byte) (evs : List Event) : State :=
  { s.atRest .idle with
    state := .idle
    oe := idleOe
    out := idleOut
    shift := b
    bitIdx := 0#3
    err := (endVerdict (s.pinsAt (k - 1))).isSome
    fault := endRecord ch (s.pinsAt (k - 1))
    time := s.time + d
    trace := evs.reverse ++ s.trace
    contention :=
      if s.oe.data = false ∧ s.deviceDrives = true then (s.time + 2 * s.cfg.tHalf) :: s.contention else s.contention
    draws := s.draws.drop k
    drawCount := s.drawCount + k }

/-- The ticks of a write frame (R156) and of a read frame (R161). -/
def writeTicks (cfg : Params) : Nat := 35 * cfg.tHalf
/-- R161. -/
def readTicks (cfg : Params) : Nat := 35 * cfg.tHalf + cfg.tTurn

/-- The ticks of one channel's four frames in `DAC_INIT` (R206). -/
def channelTicks (cfg : Params) : Nat := 2 * readTicks cfg + 2 * writeTicks cfg

/-- The sampling instants of one channel of `DAC_INIT` are 24: ten for each read, two for each write. Here all of them
pass for channel `c`, and the device answers what R200 asks for. -/
abbrev ChannelPasses (s : State) (c : Nat) : Prop :=
  (∀ k ∈ [0, 9, 10, 19, 20, 21, 22, 23], Quiet (s.pinsAt (24 * c + k))) ∧
    s.byteAt (24 * c + 1) = s.cfg.expectedRev ∧ s.byteAt (24 * c + 11) &&& s.cfg.retimeMask = 0#8

/-- The record of `FAULT` after a successful command (R225): cleared, but in state `Fault`. -/
def clearedFault (s : State) : FaultRec := if s.state = .fault then s.fault else FaultRec.zero

/-- The tick at which channel `c` of a `DAC_INIT` begins, counted from its acceptance (R206). -/
def channelStart (cfg : Params) (c : Nat) : Nat :=
  cfg.tRst + cfg.tRstRec + c * (channelTicks cfg + cfg.tStrobe)

/-! ### The bring-up, frame by frame (R200): for each channel, frame 0 reads the revision, frame 1 reads the clock mode, and
frames 2 and 3 write the two common-mode-resistor registers -/

/-- The tick at which frame `f` of a channel begins, counted from the channel's begin; for `f` = 4, its strobe. -/
def frameStart (cfg : Params) : Nat → Nat
  | 0 => 0
  | 1 => readTicks cfg
  | 2 => 2 * readTicks cfg
  | 3 => 2 * readTicks cfg + writeTicks cfg
  | _ => channelTicks cfg

/-- The sampling instants of a channel before its frame `f`; for `f` = 4, all 24. -/
def frameSample : Nat → Nat
  | 0 => 0
  | 1 => 10
  | 2 => 20
  | 3 => 22
  | _ => 24

/-- The input ports where frame `f` of channel `c` is started, in a `DAC_INIT` accepted in `s`. -/
def State.pinsAtStart (s : State) (c f : Nat) : Levels := s.pinsAt (24 * c + frameSample f)

/-- The input ports at the post-checks of frame `f` of channel `c`. -/
def State.pinsAtEnd (s : State) (c f : Nat) : Levels := s.pinsAt (24 * c + frameSample (f + 1) - 1)

/-- Frame `f` of channel `c` passes: both its line checks, and R200's check of the byte it reads, if it reads one. -/
abbrev FramePasses (s : State) (c f : Nat) : Prop :=
  Quiet (s.pinsAtStart c f) ∧ Quiet (s.pinsAtEnd c f) ∧ (f = 0 → s.byteAt (24 * c + 1) = s.cfg.expectedRev) ∧
    (f = 1 → s.byteAt (24 * c + 11) &&& s.cfg.retimeMask = 0#8)

/-- The events of frame `f` of a channel from `t` on: `chsel` first (R180), then the frame, with the instruction byte of the
register it accesses (R90, R91, R200); `enable` where `DATA` floats before the channel's first frame. -/
def frameEvents (cfg : Params) (t : Nat) (enable : Bool) (c : Channel) : Nat → List Event
  | 0 => ⟨t, .chsel c⟩ :: readEvents cfg t enable (0x80#8 ||| (cfg.addrHwRev &&& 0x1F#8))
  | 1 => ⟨t, .chsel c⟩ :: readEvents cfg t true (0x80#8 ||| (cfg.addrClkMode &&& 0x1F#8))
  | 2 => ⟨t, .chsel c⟩ :: writeEvents cfg t true (cfg.addrCmrI &&& 0x1F#8) cfg.cmrInit
  | _ => ⟨t, .chsel c⟩ :: writeEvents cfg t true (cfg.addrCmrQ &&& 0x1F#8) cfg.cmrInit

/-- The events of the first `f` frames of a channel that begins at `t`. -/
def framesEvents (cfg : Params) (t : Nat) (enable : Bool) (c : Channel) (f : Nat) : List Event :=
  (List.range f).flatMap fun j => frameEvents cfg (t + frameStart cfg j) enable c j

/-- The events of a channel that begins at `t` and passes: its four frames and its strobe of `T_STROBE` ticks (R203). -/
def channelEvents (cfg : Params) (t : Nat) (enable : Bool) (c : Channel) : List Event :=
  framesEvents cfg t enable c 4 ++
    [⟨t + channelTicks cfg, .chReady c true⟩, ⟨t + channelTicks cfg + cfg.tStrobe, .chReady c false⟩]

/-- The events of a `DAC_INIT` accepted at `t`, up to and with the first `f` frames of channel `c`: the clock enable, the
reset pulse of `T_RST` ticks (R200, R202), and the channels; `enable` where `DATA` floats at `t`. A frame leaves `DATA`
floating, so it does before every frame but the first. -/
def bringUpEvents (cfg : Params) (t : Nat) (enable : Bool) (c f : Nat) : List Event :=
  [⟨t, .dacClkEn true⟩, ⟨t, .dacRst true⟩, ⟨t + cfg.tRst, .dacRst false⟩] ++
    ((List.range c).flatMap fun c' =>
      channelEvents cfg (t + channelStart cfg c') (enable || decide (0 < c')) (BitVec.ofNat 3 c')) ++
    framesEvents cfg (t + channelStart cfg c) (enable || decide (0 < c)) (BitVec.ofNat 3 c) f

/-- The times, newest first, at which the events enable `DATA`. -/
def dataEnables (evs : List Event) : List Nat :=
  ((evs.filter fun e => decide (e.change = .oe .data true)).map Event.time).reverse

/-- The byte that stands in `shift` after the first `f` frames of channel `c`, one frame at least having run (R133, R134). -/
def State.bringUpShift (s : State) (c : Nat) : Nat → Byte
  | 1 => s.byteAt (24 * c + 1)
  | 2 => s.byteAt (24 * c + 11)
  | _ => s.cfg.cmrInit

/-- The byte read last by then (R40, R160). -/
def State.bringUpRdata (s : State) (c : Nat) : Nat → Byte
  | 0 => s.byteAt (24 * (c - 1) + 11)
  | 1 => s.byteAt (24 * c + 1)
  | _ => s.byteAt (24 * c + 11)

/-- The outputs `ch_ready` after the strobes of the channels below `c` (R203). -/
def strobedBelow (c : Nat) (ready : BitVec 8) : BitVec 8 := ready &&& (0xFF#8 <<< c)

/-- The state after a `DAC_INIT` accepted in `s` that ended, `d` ticks after its acceptance and after `k` sampling instants,
with the first `f` frames of channel `c` run (one frame at least in all), the events `evs`, and the record `r`, `none` for
`ok`. Everything not named is as in `s`. -/
def State.bringUpEnd (s : State) (c f d k : Nat) (evs : List Event) (r : Option FaultRec) : State :=
  { s.atRest .idle with
    oe := idleOe
    out := idleOut
    shift := s.bringUpShift c f
    bitIdx := 0#3
    rdata := s.bringUpRdata c f
    err := r.isSome
    fault := r.getD FaultRec.zero
    dacReady := r.isNone
    chsel := BitVec.ofNat 3 c
    chIdx := BitVec.ofNat 3 c
    dacClkEn := true
    dacRst := false
    chReady := strobedBelow (if r.isNone = true then c + 1 else c) s.chReady
    time := s.time + d
    trace := evs.reverse ++ s.trace
    contention := (if s.deviceDrives = true then dataEnables evs else []) ++ s.contention
    draws := s.draws.drop k
    drawCount := s.drawCount + k }

/-- The state after a `DAC_INIT` that failed with `r` after frame `f` of channel `c`. -/
def State.bringUpFails (s : State) (c f : Nat) (r : FaultRec) : State :=
  s.bringUpEnd c (f + 1) (channelStart s.cfg c + frameStart s.cfg (f + 1)) (24 * c + frameSample (f + 1))
    (bringUpEvents s.cfg s.time (!s.oe.data) c (f + 1)) (some r)

/-! ### Who runs -/

/-- The instruction `i` is running (R35). -/
abbrev Running (s : State) (i : Instr) : Prop := s.busy = true ∧ decodeCmd s.curCmd = .ok i

/-- The coming step accepts the instruction `i` (R38). -/
abbrev Accepts (s : State) (i : Instr) : Prop :=
  s.rst = false ∧ s.busy = false ∧ ∃ w, (nextInput s).1 = .write 0x00 4 w ∧ decodeCmd w = .ok i

/-! ### The invariant -/

/-- Only the fields valid for the code hold a value (R41), and `CODE` 4 has a reason (I10). -/
def FaultRec.Wf (r : FaultRec) : Prop :=
  match r.code with
  | .none => r = FaultRec.zero
  | .lineStuckHigh => r.signal ≠ 3#2 ∧ r.channel = 0#3 ∧ r.reason = .none ∧ r.got = 0#8
  | .lineStuckLow => r.signal ≠ 3#2 ∧ r.channel = 0#3 ∧ r.reason = .none ∧ r.got = 0#8
  | .lineFloating => r.signal ≠ 3#2 ∧ r.channel = 0#3 ∧ r.reason = .none ∧ r.got = 0#8
  | .preconditionViolated => r.signal = 0#2 ∧ r.reason ≠ .none ∧ r.got = 0#8
  | .revisionMismatch => r.signal = 0#2 ∧ r.reason = .none
  | .clockRetimeFailure => r.signal = 0#2 ∧ r.reason = .none
  | .illegalCommand => r = ⟨.illegalCommand, 0#2, 0#3, .none, 0#8⟩

/-- The codes of a failed self-test (R151). -/
abbrev FaultCode.isSelfTest (c : FaultCode) : Prop :=
  c = .lineStuckHigh ∨ c = .lineStuckLow ∨ c = .lineFloating

/-- The longest single wait (R36). -/
def maxWait (c : Params) : Nat :=
  max (2 * c.tHalf) (max c.tTurn (max c.tRst (max c.tRstRec c.tStrobe)))

/-- The block's own state is at its reset value (R46); the parameters, the port levels, the environment and the model's
records are any. -/
abbrev State.AtReset (s : State) : Prop :=
  s = { State.reset with
    cfg := s.cfg
    rst := s.rst
    busData := s.busData
    trace := s.trace
    contention := s.contention
    deviceDrives := s.deviceDrives
    inputs := s.inputs
    draws := s.draws
    drawCount := s.drawCount }

/-- The invariant that every step keeps. -/
structure State.Inv (s : State) : Prop where
  /-- The parameters meet their constraints (R277). -/
  params : s.cfg.Wf
  /-- An idle sequencer holds nothing (R35). -/
  idle : s.busy = false → s.todo = [] ∧ s.waitCnt = 0 ∧ s.stagedRdata = none ∧ s.stagedReady = none
  /-- A busy one is in a wait, no longer than the longest (R35, R36). -/
  waiting : s.busy = true → 1 ≤ s.waitCnt ∧ s.waitCnt ≤ maxWait s.cfg
  /-- The sequencer stands at a wait of the command that `cur_cmd` names, and what is still to run is all that follows that
  wait (R23, R35, R38, R72). -/
  program : s.busy = true → ∃ i n, decodeCmd s.curCmd = .ok i ∧ .wait n :: s.todo <:+ programOf s.cfg i ∧ s.waitCnt ≤ n
  /-- No command runs in state `Fault` (R229). -/
  running : s.busy = true → s.stateAtAccept ≠ .fault ∧ s.state ≠ .fault
  /-- In state `Fault`, `FAULT` is the record of the self-test that failed (R229). -/
  frozen : s.state = .fault → s.fault = s.stRec.record ∧ s.stRec.code.isSelfTest
  /-- A field of `FAULT` not valid for its code reads 0 (R41, I10). -/
  record : s.fault.Wf
  /-- After a failed command there is a record (R226). -/
  errShows : s.err = true → s.fault.code ≠ .none
  /-- After a successful one there is none, outside state `Fault` (R225). -/
  errClear : s.err = false → s.state = .fault ∨ s.fault = FaultRec.zero
  /-- While `rst` is asserted everything is at its reset value (R260). -/
  underReset : s.rst = true → s.AtReset

end Sys2Proof.Machine
end

