-- ==== Sys2Proof/Certificates/Slice0/Obligations.lean ====
section
/-! DEFINITION. The statements for the provers. They quantify over every state, so over every value of the parameters
(R8) and over everything the environment may present at every sampling instant (R47). -/

open Sys2Proof Sys2Proof.Machine

/-! ### Encodings -/

/-- R99: the table of command words. -/
def Obligations.SpecCommandWordsDecode : Prop :=
  decodeCmd 0x00000052#32 = .ok (.lineDrive .clk true) ∧
  decodeCmd 0x00000021#32 = .ok (.lineSetOe .data false) ∧
  decodeCmd 0x00000003#32 = .ok (.lineSense .cs) ∧
  decodeCmd 0xA5050007#32 = .ok (.tWrite 0x05#8 0xA5#8) ∧
  decodeCmd 0x00850008#32 = .ok (.tRead 0x85#8) ∧
  decodeCmd 0xA5050309#32 = .ok (.dacWrite 3#3 0x05#8 0xA5#8) ∧
  decodeCmd 0x001F070A#32 = .ok (.dacRead 7#3 0x1F#8) ∧
  decodeCmd 0x0000000B#32 = .ok .dacInit ∧
  legalWord 0x0000000C#32 = false ∧
  legalWord 0x00000080#32 = false ∧
  legalWord 0x00000032#32 = false ∧
  decodeCmd 0xFFFF0770#32 = .ok .nop

/-- R97: the words of the commands without operands, and R92: the two forms of the wire byte. -/
def Obligations.SpecPlainWordsAndWireBytesDecode : Prop :=
  decodeCmd 0x00000000#32 = .ok .nop ∧
  decodeCmd 0x00000004#32 = .ok .tInit ∧
  decodeCmd 0x00000005#32 = .ok .tStart ∧
  decodeCmd 0x00000006#32 = .ok .tEnd ∧
  decodeWire 0x05#8 = .ok (.wireWriteInstr 0x05#5) ∧
  decodeWire 0x85#8 = .ok (.wireReadInstr 0x05#5) ∧
  decodeWire 0x25#8 = .error .wireBits

/-- Decoding the word of a well-formed instruction gives it back, every operand at every value (R81, R82, R90, R91). -/
def Obligations.DecodeOfEncodeIsTheInstruction : Prop :=
  ∀ i : Instr, i.wellFormed = true → decode (encode i) = .ok i

/-- R88: the legal words, in closed form, are those that decode to one of the twelve commands. -/
def Obligations.LegalWordsAreTheTwelveCommands : Prop :=
  ∀ w : Word, legalWord w = true ↔ ∃ i, decodeCmd w = .ok i ∧ isCommand i = true

/-- R86: a field that an op does not read (R82's column "fields read") is ignored; the reserved bits are checked by every
op. -/
def Obligations.UnreadFieldsAreIgnored : Prop :=
  (∀ w w' : Word, opField w = opField w' → (opField w).toNat ≤ 11 →
    w &&& reservedMask = 0#32 → w' &&& reservedMask = 0#32 →
    (opField w ∈ [1#4, 2#4, 3#4] → sigField w = sigField w') →
    (opField w ∈ [1#4, 2#4] → valField w = valField w') →
    (opField w ∈ [9#4, 10#4] → chField w = chField w') →
    (opField w ∈ [7#4, 8#4, 9#4, 10#4] → regField w = regField w') →
    (opField w ∈ [7#4, 9#4] → dataField w = dataField w') →
    decodeCmd w = decodeCmd w') ∧
  (∀ w : Word, w &&& reservedMask ≠ 0#32 → legalWord w = false)

/-- R90, R91: the wire encoders on all 256 addresses: bits 7:5 are the direction and two zeros, bits 4:0 those of the
address; and the rules' corner cases. -/
def Obligations.WireEncodersMaskTheAddress : Prop :=
  (∀ a : Byte, writeInstruction a = a &&& 0b00011111#8 ∧ writeInstruction a = 0b000#3 ++ a.extractLsb' 0 5) ∧
  (∀ a : Byte, readInstruction a = 0x80#8 ||| (a &&& 0b10011111#8) ∧
    readInstruction a = 0x80#8 ||| (a &&& 0x1F#8) ∧ readInstruction a = 0b100#3 ++ a.extractLsb' 0 5) ∧
  (writeInstruction 0x00#8 = 0x00#8 ∧ writeInstruction 0x1F#8 = 0x1F#8 ∧ writeInstruction 0x20#8 = 0x00#8 ∧
    writeInstruction 0xFF#8 = 0x1F#8) ∧
  (readInstruction 0x00#8 = 0x80#8 ∧ readInstruction 0x1F#8 = 0x9F#8 ∧ readInstruction 0x60#8 = 0x80#8 ∧
    readInstruction 0xFF#8 = 0x9F#8)

/-- R93, which the spec derives from R90 and R91: the encoders are idempotent, and addresses alias modulo 32. -/
def Obligations.WireEncodersAliasModulo32 : Prop :=
  (∀ a : Byte, writeInstruction (writeInstruction a) = writeInstruction a ∧
    readInstruction (readInstruction a) = readInstruction a) ∧
  (∀ a b : Byte, a.extractLsb' 0 5 = b.extractLsb' 0 5 →
    writeInstruction a = writeInstruction b ∧ readInstruction a = readInstruction b)

/-! ### Steps -/

/-- A write to `CMD` of a word that decodes to `i`, with no command running, is a step that runs `i`, after `cur_cmd` has
taken the word (R38). -/
def Obligations.StepRunsTheDecodedCommand : Prop :=
  ∀ (s : State) (w : Word) (i : Instr) (rest : List Input),
    s.inputs = .write 0x00 4 w :: rest → s.rst = false → s.busy = false → decodeCmd w = .ok i →
    step s = exec i { s with inputs := rest, curCmd := w }

/-- The same for the word `withFetchWord` places (32 bits). The placing is the model's choice, log entry 1. -/
def Obligations.StepRunsThePlacedCommand : Prop :=
  ∀ (s : State) (w : Nat) (i : Instr), decodeTableWord 32 w = some i →
    step (s.withFetchWord 32 w) =
      exec i { s with
        rst := false, busy := false, todo := [], waitCnt := 0, stagedRdata := none, stagedReady := none,
        curCmd := BitVec.ofNat 32 w }

/-- The same for a wire byte: at the last tick of a wait the sequencer shifts it out, before what the running command has
still to do. The reading of a wire byte as an instruction is the model's choice, log entry 2. -/
def Obligations.StepRunsThePlacedWireByte : Prop :=
  ∀ (s : State) (w : Nat) (i : Instr), decodeTableWord 8 w = some i →
    step (s.withFetchWord 8 w) =
      exec i { (if s.busy = true then s else s.accepted) with rst := false, time := s.time + 1, waitCnt := 0 }

/-- R80: an illegal word (R88's closed form) fails at once with ILLEGAL_COMMAND and changes nothing else; a legal word runs
the command it names. In state `Fault` the record is frozen (R229). -/
def Obligations.AcceptedWordRunsOrIsIllegal : Prop :=
  ∀ (s : State) (w : Word),
    (legalWord w = false →
      acceptCommand w s = .next { s.atRest s.state with
        curCmd := w
        err := true
        fault := if s.state = .fault then s.fault else ⟨.illegalCommand, 0#2, 0#3, .none, 0#8⟩ }) ∧
    (legalWord w = true →
      ∃ i, decodeCmd w = .ok i ∧ isCommand i = true ∧ acceptCommand w s = exec i { s with curCmd := w })

/-- R38, R222: a `CMD` write while `BUSY` = 1 is dropped, and only `OVERRUN` changes, so it is no fault; one while `BUSY` = 0
is accepted, and its word is kept in `cur_cmd`. A read returns `cur_cmd` at any time, and its reset value is 0. -/
def Obligations.CommandWriteIsAcceptedOrDropped : Prop :=
  (∀ (s : State) (w : Word) (rest : List Input), s.inputs = .write 0x00 4 w :: rest → s.rst = false →
    (s.busy = true → step s = .next { s with inputs := rest, overrun := true }) ∧
    (s.busy = false → step s = acceptCommand w { s with inputs := rest } ∧ ∃ t, step s = .next t ∧ t.curCmd = w)) ∧
  (∀ (s : State) (rest : List Input), s.inputs = .read 0x00 4 :: rest →
    step s = .next { s with inputs := rest, busData := s.curCmd }) ∧
  State.reset.curCmd = 0#32

/-- R39: a `STATUS` write clears `OVERRUN` where its bit 4 is 1, and is ignored otherwise. -/
def Obligations.StatusWriteClearsOverrun : Prop :=
  ∀ (s : State) (v : Word) (rest : List Input), s.inputs = .write 0x04 4 v :: rest → s.rst = false →
    (v.getLsbD 4 = true → step s = .next { s with inputs := rest, overrun := false }) ∧
    (v.getLsbD 4 = false → step s = .next { s with inputs := rest })

/-- R44: writes to `RESULT`, `FAULT`, `LINES`, `AUX` and the reserved offsets are ignored, and the reserved offsets read 0. -/
def Obligations.OtherRegistersIgnoreWrites : Prop :=
  (∀ (s : State) (off : Nat) (v : Word) (rest : List Input), off ∈ [0x08, 0x0C, 0x10, 0x14, 0x18, 0x1C] →
    s.inputs = .write off 4 v :: rest → step s = .next { s with inputs := rest }) ∧
  (∀ (s : State) (off : Nat) (rest : List Input), off ∈ [0x18, 0x1C] → s.inputs = .read off 4 :: rest →
    step s = .next { s with inputs := rest, busData := 0#32 })

/-- R62, R66: a read returns the register at that instant and has no side effect; a read of `LINES` takes the levels of
one sampling instant. -/
def Obligations.ReadsReturnTheRegister : Prop :=
  ∀ (s : State) (rest : List Input),
    (s.inputs = .read 0x00 4 :: rest → step s = .next { s with inputs := rest, busData := s.curCmd }) ∧
    (s.inputs = .read 0x04 4 :: rest → step s = .next { s with inputs := rest, busData := s.statusWord }) ∧
    (s.inputs = .read 0x08 4 :: rest → step s = .next { s with inputs := rest, busData := s.resultWord }) ∧
    (s.inputs = .read 0x0C 4 :: rest → step s = .next { s with inputs := rest, busData := s.fault.word }) ∧
    (s.inputs = .read 0x10 4 :: rest → step s = .next { s with
      inputs := rest, busData := s.linesWord (s.pinsAt 0), draws := s.draws.drop 1, drawCount := s.drawCount + 1 }) ∧
    (s.inputs = .read 0x14 4 :: rest → step s = .next { s with inputs := rest, busData := s.auxWord })

/-- R63: an access of another width, or at an offset that is no multiple of 4, has no step: it is refused, and only such an
access is refused so. -/
def Obligations.OtherAccessesAreRefused : Prop :=
  ∀ (s : State) (off width : Nat) (v : Word) (rest : List Input),
    (s.inputs = .read off width :: rest ∨ s.inputs = .write off width v :: rest) →
    (step s = .refused .accessNotAdmitted ↔ width ≠ 4 ∨ off % 4 ≠ 0)

/-- R60, R62: a host address reaches the register at its offset from `BASE`, wherever `BASE` lies, and an address outside
the 32 bytes of the window reaches none. That the inputs of `step` carry the offset, and that an access outside the window
is refused, is the model's choice, log entry 11. -/
def Obligations.HostAddressesReachTheWindow : Prop :=
  ∀ (s : State) (v : Word),
    (∀ off width : Nat, off < 32 →
      memRead (s.cfg.base + off) width s = react (.read off width) s ∧
      memWrite (s.cfg.base + off) width v s = react (.write off width v) s) ∧
    (∀ addr width : Nat, (addr < s.cfg.base ∨ s.cfg.base + 32 ≤ addr) →
      memRead addr width s = .refused .outsideWindow ∧ memWrite addr width v s = .refused .outsideWindow) ∧
    (∀ off : Nat, off % 4 = 0 → 32 ≤ off →
      react (.read off 4) s = .refused .outsideWindow ∧ react (.write off 4 v) s = .refused .outsideWindow)

/-- R39 to R43: where the fields of the host registers stand. -/
def Obligations.RegisterFieldsStandInTheirBits : Prop :=
  (∀ s : State,
    s.statusWord.getLsbD 0 = s.busy ∧ s.statusWord.extractLsb' 1 2 = s.state.bits ∧ s.statusWord.getLsbD 3 = s.err ∧
    s.statusWord.getLsbD 4 = s.overrun ∧ s.statusWord.getLsbD 5 = s.dacReady ∧ s.statusWord.extractLsb' 6 26 = 0#26 ∧
    s.resultWord.extractLsb' 0 8 = s.rdata ∧ s.resultWord.getLsbD 8 = s.senseBit ∧ s.resultWord.extractLsb' 9 23 = 0#23 ∧
    s.auxWord.extractLsb' 0 3 = s.chsel ∧ s.auxWord.getLsbD 8 = s.dacClkEn ∧ s.auxWord.getLsbD 9 = s.dacRst ∧
    s.auxWord.extractLsb' 16 8 = s.chReady ∧ s.auxWord &&& 0xFF00FCF8#32 = 0#32) ∧
  (∀ r : FaultRec,
    r.word.extractLsb' 0 4 = r.code.bits ∧ r.word.extractLsb' 4 2 = r.signal ∧ r.word.extractLsb' 6 3 = r.channel ∧
    r.word.extractLsb' 9 3 = r.reason.bits ∧ r.word.extractLsb' 16 8 = r.got ∧ r.word &&& 0xFF00F000#32 = 0#32) ∧
  (∀ (s : State) (p : Levels) (sig : Signal),
    (s.linesWord p).getLsbD (signalBits sig).toNat = s.oe.get sig ∧
    (s.linesWord p).getLsbD (4 + (signalBits sig).toNat) = s.out.get sig ∧
    (s.linesWord p).getLsbD (8 + (signalBits sig).toNat) = p.get sig ∧
    s.linesWord p &&& 0xFFFFF888#32 = 0#32)

/-- R30, R220, R221: the numbers of the states, the fault codes and the reasons. -/
def Obligations.CodesHaveTheirNumbers : Prop :=
  (TState.uninitialized.bits = 0#2 ∧ TState.idle.bits = 1#2 ∧ TState.inFrame.bits = 2#2 ∧ TState.fault.bits = 3#2) ∧
  (FaultCode.none.bits = 0#4 ∧ FaultCode.lineStuckHigh.bits = 1#4 ∧ FaultCode.lineStuckLow.bits = 2#4 ∧
    FaultCode.lineFloating.bits = 3#4 ∧ FaultCode.preconditionViolated.bits = 4#4 ∧
    FaultCode.revisionMismatch.bits = 5#4 ∧ FaultCode.clockRetimeFailure.bits = 6#4 ∧
    FaultCode.illegalCommand.bits = 7#4) ∧
  (Reason.none.bits = 0#3 ∧ Reason.state.bits = 1#3 ∧ Reason.csActive.bits = 2#3 ∧ Reason.clkHigh.bits = 3#3 ∧
    Reason.dataDrivenHigh.bits = 4#3 ∧ Reason.postCs.bits = 5#3 ∧ Reason.postClk.bits = 6#3 ∧
    Reason.postData.bits = 7#3)

/-! ### Time and reset -/

/-- R23: each tick is one `TICK`; the statement `wait(n)` stands with `n` ticks left, ends on the `n`-th tick after it starts,
and the command goes on with its next statement; before that only the time and `wait_cnt` change. -/
def Obligations.WaitEndsOnItsLastTick : Prop :=
  (∀ s : State, s.rst = false → (tick s).micros = s.micros + s.cfg.tickUs) ∧ Params.default.tickUs = 1 ∧
  (∀ s : State, s.rst = false → s.busy = true → 1 ≤ s.waitCnt →
    (∀ k, k < s.waitCnt → ticks k s = { s with time := s.time + k, waitCnt := s.waitCnt - k }) ∧
    ticks s.waitCnt s = run s.todo { s with time := s.time + s.waitCnt, waitCnt := 0, todo := [] }) ∧
  ∀ (s : State) (n : Nat) (ms : List Micro), 1 ≤ n →
    run (.wait n :: ms) s = { s with waitCnt := n, todo := ms } ∧
    (s.rst = false → s.busy = true →
      (∀ k, k < n → ticks k (run (.wait n :: ms) s) = { s with time := s.time + k, waitCnt := n - k, todo := ms }) ∧
      ticks n (run (.wait n :: ms) s) = run ms { s with time := s.time + n, waitCnt := 0, todo := [] })

/-- R46: the reset values. -/
def Obligations.ResetGivesTheStatedValues : Prop :=
  let s := State.reset
  s.state = .uninitialized ∧ s.oe = ⟨false, false, false⟩ ∧ s.out = ⟨false, false, false⟩ ∧ s.chsel = 0#3 ∧
  s.dacClkEn = false ∧ s.dacRst = false ∧ s.chReady = 0#8 ∧ s.curCmd = 0#32 ∧ s.statusWord = 0#32 ∧
  s.resultWord = 0#32 ∧ s.fault = FaultRec.zero ∧ s.fault.word = 0#32 ∧ s.stRec.code = .none ∧ (signalBits s.stRec.signal) = 0#2 ∧ s.time = 0 ∧
  s.busy = false ∧ s.rst = false

/-- R22, R260: asserting `rst` puts the block's state at its reset value, in every state, and ends the running command
without a completion; the parameters stay. The values it gives `shift`, `bit_idx`, `st_h`, `st_l`, `ch_idx`, `wait_cnt`,
`step`, `state_at_accept` and the staged results, which R46 does not give, are the model's choice, log entry 5; so are the
trace's entry `blockReset` and that the inputs and draws still to come stay, log entry 9. -/
def Obligations.AssertingRstResetsTheBlock : Prop :=
  ∀ (s : State) (rest : List Input), s.inputs = .rst true :: rest →
    ∃ t, step s = .next t ∧ t.AtReset ∧ t.rst = true ∧ t.cfg = s.cfg ∧ t.inputs = rest ∧ t.draws = s.draws ∧
      t.trace = ⟨s.time, .blockReset⟩ :: s.trace

/-- R260: while `rst` is asserted, ticks pass without effect, admitted writes are ignored, and reads return the reset
values. -/
def Obligations.HeldResetIgnoresTheHost : Prop :=
  ∀ (s : State) (rest : List Input), s.rst = true →
    (s.inputs = .tick :: rest → step s = .next { s with inputs := rest }) ∧
    (∀ (off : Nat) (v : Word), off % 4 = 0 → off < 32 → s.inputs = .write off 4 v :: rest →
      step s = .next { s with inputs := rest }) ∧
    (∀ off : Nat, s.AtReset → off ∈ [0x00, 0x04, 0x08, 0x0C, 0x14, 0x18, 0x1C] → s.inputs = .read off 4 :: rest →
      step s = .next { s with inputs := rest, busData := 0#32 }) ∧
    (s.AtReset → s.inputs = .read 0x10 4 :: rest →
      step s = .next { s with
        inputs := rest, busData := 0#21 ++ (s.pinsAt 0).bits ++ 0#8, draws := s.draws.drop 1,
        drawCount := s.drawCount + 1 })

/-- R261: after `rst` is released, and whenever no command runs, the block does nothing on its own: only time passes.
That an empty list of inputs makes a step a tick is the model's choice, log entry 1. -/
def Obligations.IdleBlockDoesNothingOnItsOwn : Prop :=
  (∀ (s : State) (rest : List Input), s.inputs = .rst false :: rest →
    step s = .next { s with inputs := rest, rst := false }) ∧
  (∀ s : State, s.rst = false → s.busy = false → ∀ n, ticks n s = { s with time := s.time + n }) ∧
  (∀ s : State, s.inputs = [] → step s = .next (tick s))

/-! ### Completion -/

/-- R225, R226: what `ok` and `fail` change, and nothing else but the sequencer's own fields. -/
def Obligations.CompletionCommitsTogether : Prop :=
  ∀ (s : State) (r : FaultRec),
    s.ok = { s.atRest s.stateAtAccept with
      err := false
      fault := if s.stateAtAccept = .fault then s.fault else FaultRec.zero
      rdata := s.stagedRdata.getD s.rdata
      dacReady := s.stagedReady.getD s.dacReady } ∧
    s.fail r = { s.atRest s.stateAtAccept with
      err := true
      fault := if s.stateAtAccept = .fault then s.fault else r
      rdata := s.stagedRdata.getD s.rdata
      dacReady := s.stagedReady.getD s.dacReady }

/-- R68: while a command runs, `ERR`, `DAC_READY`, `RESULT` and `FAULT` keep the values of the previous completed command;
only `rst` changes them without a completion. -/
def Obligations.ResultsChangeOnlyAtCompletion : Prop :=
  ∀ s t : State, s.Inv → s.busy = true → step s = .next t → t.busy = true →
    t.err = s.err ∧ t.dacReady = s.dacReady ∧ t.resultWord = s.resultWord ∧ t.fault = s.fault ∧ t.curCmd = s.curCmd

/-! ### Line commands -/

/-- R29: `lines.oe[s] <- v` and `lines.out[s] <- v`, as every command makes them, change that one bit of the line register and
no other. -/
def Obligations.LineWriteChangesOneBit : Prop :=
  ∀ (s : State) (sig sig' : Signal) (v : Bool),
    ((s.setOe sig v).oe.get sig' = if sig' = sig then v else s.oe.get sig') ∧ (s.setOe sig v).out = s.out ∧
    ((s.setOut sig v).out.get sig' = if sig' = sig then v else s.out.get sig') ∧ (s.setOut sig v).oe = s.oe

/-- R110: `NOP` completes, clears `ERR`, and clears `FAULT` outside state `Fault`; everything else stays. -/
def Obligations.NopAcknowledges : Prop :=
  ∀ s : State, exec .nop s = .next { s.atRest s.state with err := false, fault := clearedFault s }

/-- R111, R114, R115: `LINE_SET_OE` writes one output enable, at once and in every `state`; where it leaves both sides
driving `DATA`, the model records the contention (R48). -/
def Obligations.LineSetOeWritesOneEnable : Prop :=
  ∀ (s : State) (sig : Signal) (v : Bool), exec (.lineSetOe sig v) s = .next { s.atRest s.state with
    oe := s.oe.set sig v
    trace := ⟨s.time, .oe sig v⟩ :: s.trace
    contention := if sig = .data ∧ v = true ∧ s.deviceDrives = true then s.time :: s.contention else s.contention
    err := false
    fault := clearedFault s }

/-- R112, R114, R115: `LINE_DRIVE` writes one output level, at once and in every `state`. -/
def Obligations.LineDriveWritesOneLevel : Prop :=
  ∀ (s : State) (sig : Signal) (v : Bool), exec (.lineDrive sig v) s = .next { s.atRest s.state with
    out := s.out.set sig v
    trace := ⟨s.time, .out sig v⟩ :: s.trace
    err := false
    fault := clearedFault s }

/-- R113, R114, R115: `LINE_SENSE` puts the level of one input port into `RESULT.SENSE`, at once and in every `state`. -/
def Obligations.LineSenseReadsOneInput : Prop :=
  ∀ (s : State) (sig : Signal), exec (.lineSense sig) s = .next { s.atRest s.state with
    senseBit := (s.pinsAt 0).get sig
    draws := s.draws.drop 1
    drawCount := s.drawCount + 1
    err := false
    fault := clearedFault s }

/-! ### Reserved words and wire bytes -/

/-- R80, R83, R84: the reserved words complete at once with ILLEGAL_COMMAND and change nothing else. -/
def Obligations.ReservedWordsAreIllegal : Prop :=
  ∀ (s : State) (rest : BitVec 28) (w : Word),
    ∀ i ∈ [Instr.reservedOpC rest, .reservedOpD rest, .reservedOpE rest, .reservedOpF rest, .reservedBits w],
      exec i s = .next { s.atRest s.state with
        err := true
        fault := if s.state = .fault then s.fault else ⟨.illegalCommand, 0#2, 0#3, .none, 0#8⟩ }

/-- R90 to R92, R96, R133: a wire instruction byte goes out most-significant bit first in eight cells, and then the
sequencer goes on with what it has still to run. That it is an instruction of its own is the model's choice, log
entry 2. -/
def Obligations.WireByteIsShiftedOut : Prop :=
  ∀ (s : State) (a : BitVec 5), s.rst = false → s.busy = true →
    ∀ p ∈ [(Instr.wireWriteInstr a, (0b000#3 ++ a : Byte)), (Instr.wireReadInstr a, (0b100#3 ++ a : Byte))],
      ∃ t, exec p.1 s = .next t ∧
        (1 ≤ s.cfg.tHalf → t.out.data = (p.2.getMsbD 0 ^^ s.cfg.dataInvert) ∧ t.oe.data = true) ∧
        ticks (16 * s.cfg.tHalf) t = run s.todo { s with
          shift := p.2
          bitIdx := 0#3
          oe := s.oe.set .data true
          out := ⟨s.out.cs, false, p.2.getMsbD 7 ^^ s.cfg.dataInvert⟩
          todo := []
          waitCnt := 0
          time := s.time + 16 * s.cfg.tHalf
          trace := (sentEvents s.cfg s.time (!s.oe.data) p.2).reverse ++ s.trace
          contention :=
            if s.oe.data = false ∧ s.deviceDrives = true then s.time :: s.contention else s.contention }

/-! ### Framing -/

/-- R141: `T_START` from a state in which every precondition holds asserts chip-select at once, opens the frame, and
completes after two half-periods and not before; no other line changes. -/
def Obligations.StartOpensTheFrame : Prop :=
  ∀ s : State, s.rst = false → CanStart s →
    ∃ t, exec .tStart s = .next t ∧ t.state = .inFrame ∧ CsAsserted t ∧ t.time = s.time ∧
      (∀ k, k < 2 * s.cfg.tHalf → (ticks k t).busy = true) ∧
      ticks (2 * s.cfg.tHalf) t = { s.atRest .idle with
        state := .inFrame
        out := s.out.set .cs false
        err := false
        fault := FaultRec.zero
        time := s.time + 2 * s.cfg.tHalf
        trace := ⟨s.time, .out .cs false⟩ :: s.trace
        draws := s.draws.drop 1
        drawCount := s.drawCount + 1 }

/-- R140: the start preconditions in their order, for every transport command that opens a frame. The first that does not
hold fails the command at once with its reason; no line and no `state` changes. -/
def Obligations.StartReportsTheFirstBrokenPrecondition : Prop :=
  ∀ (s : State) (instr data : Byte), s.state ≠ .fault →
    ∀ i ∈ [Instr.tStart, .tWrite instr data, .tRead instr],
      (s.state ≠ .idle → exec i s = .next (s.failedAtOnce none .state 0)) ∧
      (s.state = .idle → ∀ r, FirstLineFault s (s.pinsAt 0) r → exec i s = .next (s.failedAtOnce none r 1))

/-- R143: `T_END` from `Idle` or `InFrame` de-asserts chip-select at once, floats `DATA` one half-period later, leaves the
idle configuration and `state` = `Idle`, and then reports a post-check that does not hold. -/
def Obligations.EndReturnsToTheIdleConfiguration : Prop :=
  ∀ s : State, s.rst = false → (s.state = .idle ∨ s.state = .inFrame) →
    ∃ t, exec .tEnd s = .next t ∧ t.out = idleOut ∧ (1 ≤ s.cfg.tHalf → t.oe.data = s.oe.data) ∧
      ticks s.cfg.tHalf t = { s.atRest s.state with
        state := .idle
        oe := idleOe
        out := idleOut
        err := (endVerdict (s.pinsAt 0)).isSome
        fault := endRecord none (s.pinsAt 0)
        time := s.time + s.cfg.tHalf
        trace := (endEvents s.cfg.tHalf s.time).reverse ++ s.trace
        draws := s.draws.drop 1
        drawCount := s.drawCount + 1 }

/-- R143: `T_END` in `Uninitialized` fails with `REASON` = `STATE` and changes nothing. -/
def Obligations.EndNeedsIdleOrInFrame : Prop :=
  ∀ s : State, s.state = .uninitialized → exec .tEnd s = .next (s.failedAtOnce none .state 0)

/-- R144: two `T_END` in a row that pass their post-checks leave the idle configuration both times; the second changes no
bit of the line register at any time. -/
def Obligations.EndIsIdempotent : Prop :=
  ∀ s : State, s.rst = false → (s.state = .idle ∨ s.state = .inFrame) →
    Quiet (s.pinsAt 0) → Quiet (s.pinsAt 1) →
    ∃ t t', exec .tEnd s = .next t ∧ exec .tEnd (ticks s.cfg.tHalf t) = .next t' ∧
      (ticks s.cfg.tHalf t).oe = idleOe ∧ (ticks s.cfg.tHalf t).out = idleOut ∧
      (ticks s.cfg.tHalf t).err = false ∧
      (∀ k, (ticks k t').oe = idleOe ∧ (ticks k t').out = idleOut) ∧ (ticks s.cfg.tHalf t').err = false

/-! ### Self-test -/

/-- R151: the four verdicts, and the codes of the three failures. -/
def Obligations.SelfTestVerdicts : Prop :=
  classify true false = none ∧ classify true true = some .lineStuckHigh ∧
  classify false false = some .lineStuckLow ∧ classify false true = some .lineFloating ∧
  FaultCode.lineStuckHigh.bits = 1#4 ∧ FaultCode.lineStuckLow.bits = 2#4 ∧ FaultCode.lineFloating.bits = 3#4

/-- R150, R153: `T_INIT` passes where each signal in turn reads high and then low, in six half-periods; it leaves the idle
configuration and `Idle`, with the events of the self-test, and touches nothing else. -/
def Obligations.InitPassesOnGoodLines : Prop :=
  ∀ s : State, s.rst = false → s.state ≠ .fault →
    (∀ sig : Signal, (s.pinsAt (2 * (signalBits sig).toNat)).get sig = true ∧
      (s.pinsAt (2 * (signalBits sig).toNat + 1)).get sig = false) →
    ∃ t, exec .tInit s = .next t ∧
      ticks (6 * s.cfg.tHalf) t = { s.atRest s.state with
        state := .idle
        oe := idleOe
        out := idleOut
        stH := true
        stL := false
        err := false
        fault := FaultRec.zero
        time := s.time + 6 * s.cfg.tHalf
        trace := (releaseEvents s.time ++ testEvents s.cfg.tHalf s.time .cs ++
          testEvents s.cfg.tHalf (s.time + 2 * s.cfg.tHalf) .clk ++
          testEvents s.cfg.tHalf (s.time + 4 * s.cfg.tHalf) .data ++
          idleEvents (s.time + 6 * s.cfg.tHalf)).reverse ++ s.trace
        contention :=
          if s.deviceDrives = true then (s.time + 4 * s.cfg.tHalf) :: s.contention else s.contention
        draws := s.draws.drop 6
        drawCount := s.drawCount + 6 }

/-- R150, R151, R153, R227: `T_INIT` fails at the first signal whose verdict is not PASS, after two half-periods for each
signal tested and not before, with the events of the signals tested; every line floats, `state` is `Fault`, and `st_rec`
and `FAULT` name the code and the signal. The signals after it are not tested, and nothing else changes. -/
def Obligations.InitFailsAtTheFirstBadSignal : Prop :=
  ∀ (s : State) (sig : Signal) (code : FaultCode), s.rst = false → s.state ≠ .fault →
    (∀ sig' : Signal, (signalBits sig').toNat < (signalBits sig).toNat →
      (s.pinsAt (2 * (signalBits sig').toNat)).get sig' = true ∧
      (s.pinsAt (2 * (signalBits sig').toNat + 1)).get sig' = false) →
    let n := (signalBits sig).toNat + 1
    let high := (s.pinsAt (2 * n - 2)).get sig
    let low := (s.pinsAt (2 * n - 1)).get sig
    classify high low = some code →
    ∃ t, exec .tInit s = .next t ∧
      (∀ k, k < 2 * n * s.cfg.tHalf → (ticks k t).busy = true) ∧
      ticks (2 * n * s.cfg.tHalf) t = { s.atRest s.state with
        state := .fault
        oe := ⟨false, false, false⟩
        out := (testedSignals sig).foldl (fun l sig' => l.set sig' false) s.out
        stH := high
        stL := low
        stRec := ⟨code, sig⟩
        err := true
        fault := ⟨code, signalBits sig, 0#3, .none, 0#8⟩
        time := s.time + 2 * n * s.cfg.tHalf
        trace := (releaseEvents s.time ++ (testedSignals sig).flatMap fun sig' =>
          testEvents s.cfg.tHalf (s.time + 2 * (signalBits sig').toNat * s.cfg.tHalf) sig').reverse ++ s.trace
        contention :=
          if sig = .data ∧ s.deviceDrives = true then (s.time + 4 * s.cfg.tHalf) :: s.contention else s.contention
        draws := s.draws.drop (2 * n)
        drawCount := s.drawCount + 2 * n }

/-! ### Frames -/

/-- R155, R156: `T_WRITE` from a state in which every precondition of `start` holds runs the whole frame in 35 half-periods,
with the events of R156's table, both bytes verbatim; it ends in the idle configuration, and then reports a post-check
that does not hold. Nothing else changes. Where `DATA` is driven low at the acceptance, the table's `data_oe` event of the
first cell is absent, by R131; that reading is the model's (DEDUCED), log entry 15. -/
def Obligations.WriteRunsItsFrame : Prop :=
  ∀ (s : State) (instr data : Byte), s.rst = false → CanStart s →
    ∃ t, exec (.tWrite instr data) s = .next t ∧
      (1 ≤ s.cfg.tHalf → t.busy = true ∧ t.state = .inFrame ∧ CsAsserted t) ∧
      ticks (writeTicks s.cfg) t =
        s.afterFrame none (writeTicks s.cfg) 2 data (writeEvents s.cfg s.time (!s.oe.data) instr data)

/-- R160, R161: `T_READ` runs the whole frame in 35 half-periods and the settling delay, with the events of R161's table;
the eight samples are `RESULT.RDATA`, first bit 7, even where a post-check then fails. Nothing else changes. Where `DATA`
is driven low at the acceptance, the table's `data_oe` event of the first cell is absent, by R131; that reading is the
model's (DEDUCED), log entry 15. -/
def Obligations.ReadRunsItsFrame : Prop :=
  ∀ (s : State) (instr : Byte), s.rst = false → CanStart s →
    ∃ t, exec (.tRead instr) s = .next t ∧
      (1 ≤ s.cfg.tHalf → t.busy = true ∧ t.state = .inFrame ∧ CsAsserted t) ∧
      ticks (readTicks s.cfg) t =
        { s.afterFrame none (readTicks s.cfg) 10 (s.byteAt 1) (readEvents s.cfg s.time (!s.oe.data) instr) with
          rdata := s.byteAt 1 }

/-! ### DAC commands -/

/-- R186, R180, R90: `DAC_WRITE` sets `chsel`, then runs the write frame with the encoded address. Its `data_oe`
event stands only where `DATA` floats, by R131; that reading of R156 is the model's (DEDUCED), log entry 15. -/
def Obligations.DacWriteRunsItsFrame : Prop :=
  ∀ (s : State) (c : Channel) (reg data : Byte), s.rst = false → CanStart s →
    ∃ t, exec (.dacWrite c reg data) s = .next t ∧ t.chsel = c ∧
      ticks (writeTicks s.cfg) t =
        { s.afterFrame (some c) (writeTicks s.cfg) 2 data
            (⟨s.time, .chsel c⟩ :: writeEvents s.cfg s.time (!s.oe.data) (reg &&& 0x1F#8) data) with
          chsel := c }

/-- R190, R180, R91: `DAC_READ` sets `chsel`, then runs the read frame with the encoded address. Its `data_oe`
event stands only where `DATA` floats, by R131; that reading of R161 is the model's (DEDUCED), log entry 15. -/
def Obligations.DacReadRunsItsFrame : Prop :=
  ∀ (s : State) (c : Channel) (reg : Byte), s.rst = false → CanStart s →
    ∃ t, exec (.dacRead c reg) s = .next t ∧ t.chsel = c ∧
      ticks (readTicks s.cfg) t =
        { s.afterFrame (some c) (readTicks s.cfg) 10 (s.byteAt 1)
            (⟨s.time, .chsel c⟩ :: readEvents s.cfg s.time (!s.oe.data) (0x80#8 ||| (reg &&& 0x1F#8))) with
          chsel := c
          rdata := s.byteAt 1 }

/-- R181, R140: a DAC access outside `Idle` fails at once with its channel and leaves `chsel`; one whose lines are not ready
fails in `start`, after `chsel` has changed, with its channel. -/
def Obligations.DacAccessReportsItsChannel : Prop :=
  ∀ (s : State) (c : Channel) (reg data : Byte), s.state ≠ .fault →
    ∀ i ∈ [Instr.dacWrite c reg data, .dacRead c reg],
      (s.state ≠ .idle → exec i s = .next (s.failedAtOnce (some c) .state 0)) ∧
      (s.state = .idle → ∀ r, FirstLineFault s (s.pinsAt 0) r →
        exec i s = .next { s.failedAtOnce (some c) r 1 with
          chsel := c, trace := ⟨s.time, .chsel c⟩ :: s.trace })

/-- R201: `DAC_INIT` from `Uninitialized` or `InFrame` fails at once with `REASON` = `STATE` and no output change. That
`DAC_READY` becomes 0 there is the model's reading of R205, log entry 8. -/
def Obligations.DacInitNeedsIdle : Prop :=
  ∀ s : State, (s.state = .uninitialized ∨ s.state = .inFrame) →
    exec .dacInit s = .next { s.failedAtOnce none .state 0 with dacReady := false }

/-- R200 to R206, R180, R181: `DAC_INIT` passes where all channels pass, in the time of R206, with its whole trace: the
clock enable, the reset pulse of `T_RST` ticks, and for each channel in order `chsel` and the frame of each of its four
register accesses, then its strobe. It leaves the clock enabled and the idle configuration, sets `DAC_READY`, and changes
nothing else. The channels are 0 to `N_CH` - 1 (R8); that `N_CH` is 1 to 8 is log entry 6. Where `DATA` is driven at the
acceptance, the first frame has no `data_oe` event, by R131, log entry 15. -/
def Obligations.DacInitPassesOnGoodChannels : Prop :=
  ∀ s : State, s.rst = false → s.state = .idle → LinesReady s → 1 ≤ s.cfg.nCh → s.cfg.nCh ≤ 8 →
    (∀ c, c < s.cfg.nCh → ChannelPasses s c) →
    ∃ t, exec .dacInit s = .next t ∧
      ticks (channelStart s.cfg s.cfg.nCh) t =
        s.bringUpEnd (s.cfg.nCh - 1) 4 (channelStart s.cfg s.cfg.nCh) (24 * s.cfg.nCh)
          (bringUpEvents s.cfg s.time (!s.oe.data) s.cfg.nCh 0) none

/-- R200, R203, R204, R205: the first channel whose revision byte differs in any bit fails `DAC_INIT` with
REVISION_MISMATCH, its number and the byte, after its first frame, with the whole trace up to there. Earlier channels had
their strobes, later ones get nothing. Log entries 6 and 15 as in DacInitPassesOnGoodChannels. -/
def Obligations.DacInitStopsAtAWrongRevision : Prop :=
  ∀ (s : State) (c : Nat), s.rst = false → s.state = .idle → LinesReady s → s.cfg.nCh ≤ 8 → c < s.cfg.nCh →
    (∀ c', c' < c → ChannelPasses s c') →
    Quiet (s.pinsAtStart c 0) → Quiet (s.pinsAtEnd c 0) → s.byteAt (24 * c + 1) ≠ s.cfg.expectedRev →
    ∃ t, exec .dacInit s = .next t ∧
      ticks (channelStart s.cfg c + frameStart s.cfg 1) t =
        s.bringUpFails c 0 ⟨.revisionMismatch, 0#2, BitVec.ofNat 3 c, .none, s.byteAt (24 * c + 1)⟩

/-- R200, R203, R204, R205: the first channel whose clock-mode byte has a bit of `RETIME_MASK` fails `DAC_INIT` with
CLOCK_RETIME_FAILURE, its number and the byte, after its second frame, with the whole trace up to there. Log entries 6 and
15 as in DacInitPassesOnGoodChannels. -/
def Obligations.DacInitStopsAtARetimeFailure : Prop :=
  ∀ (s : State) (c : Nat), s.rst = false → s.state = .idle → LinesReady s → s.cfg.nCh ≤ 8 → c < s.cfg.nCh →
    (∀ c', c' < c → ChannelPasses s c') → FramePasses s c 0 →
    Quiet (s.pinsAtStart c 1) → Quiet (s.pinsAtEnd c 1) → s.byteAt (24 * c + 11) &&& s.cfg.retimeMask ≠ 0#8 →
    ∃ t, exec .dacInit s = .next t ∧
      ticks (channelStart s.cfg c + frameStart s.cfg 2) t =
        s.bringUpFails c 1 ⟨.clockRetimeFailure, 0#2, BitVec.ofNat 3 c, .none, s.byteAt (24 * c + 11)⟩

/-- R140, R143, R181, R231: a frame inside `DAC_INIT` that fails ends the command with that fault and the channel. First, a
post-check of any of the four frames of any channel; the frame has run. Second, a line check of `start` in any frame but
the very first; `chsel` is set, and no line moves. Third, a line check of `start` in the very first frame, before which
the lines may be any: only the clock enable, the reset pulse and `chsel` have moved. That `DAC_READY` becomes 0 is R205;
log entries 6 and 15 as in DacInitPassesOnGoodChannels. -/
def Obligations.DacInitSurfacesAFrameFault : Prop :=
  (∀ (s : State) (c f : Nat), s.rst = false → s.state = .idle → LinesReady s → s.cfg.nCh ≤ 8 → c < s.cfg.nCh → f < 4 →
    (∀ c', c' < c → ChannelPasses s c') → (∀ f', f' < f → FramePasses s c f') →
    (Quiet (s.pinsAtStart c f) → ¬Quiet (s.pinsAtEnd c f) →
      ∃ t, exec .dacInit s = .next t ∧
        ticks (channelStart s.cfg c + frameStart s.cfg (f + 1)) t =
          s.bringUpFails c f (endRecord (some (BitVec.ofNat 3 c)) (s.pinsAtEnd c f))) ∧
    (¬Quiet (s.pinsAtStart c f) → ¬(c = 0 ∧ f = 0) →
      ∃ t, exec .dacInit s = .next t ∧
        let d := channelStart s.cfg c + frameStart s.cfg f
        let r := if (s.pinsAtStart c f).cs = false then Reason.csActive else Reason.clkHigh
        ticks d t =
          s.bringUpEnd c f d (24 * c + frameSample f + 1)
            (bringUpEvents s.cfg s.time (!s.oe.data) c f ++ [⟨s.time + d, .chsel (BitVec.ofNat 3 c)⟩])
            (some ⟨.preconditionViolated, 0#2, BitVec.ofNat 3 c, r, 0#8⟩))) ∧
  (∀ (s : State) (r : Reason), s.rst = false → s.state = .idle → 1 ≤ s.cfg.nCh → FirstLineFault s (s.pinsAt 0) r →
    ∃ t, exec .dacInit s = .next t ∧
      let d := channelStart s.cfg 0
      ticks d t = { s.failedAtOnce (some 0#3) r 1 with
        dacReady := false
        chsel := 0#3
        chIdx := 0#3
        dacClkEn := true
        dacRst := false
        time := s.time + d
        trace := (bringUpEvents s.cfg s.time (!s.oe.data) 0 0 ++ [Event.mk (s.time + d) (.chsel 0#3)]).reverse ++ s.trace })

/-! ### The whole machine -/

/-- R229: in state `Fault` every transport and DAC command completes at once and changes nothing but `ERR` and the
sequencer's own fields. -/
def Obligations.FaultStateFailsEveryTransportCommand : Prop :=
  ∀ (s : State) (i : Instr), s.state = .fault → isTransport i = true →
    exec i s = .next { s.atRest .fault with err := true }

/-- R32: `Fault` is absorbing until `rst`: no step but an asserted `rst` leaves it or changes `FAULT`, `chsel` or an
auxiliary output. -/
def Obligations.FaultStateIsAbsorbing : Prop :=
  ∀ s t : State, s.Inv → s.state = .fault → step s = .next t → (nextInput s).1 ≠ .rst true →
    t.state = .fault ∧ t.fault = s.fault ∧ t.chsel = s.chsel ∧ t.dacClkEn = s.dacClkEn ∧ t.dacRst = s.dacRst ∧
      t.chReady = s.chReady

/-- R36, R13, R35: reading a command atomically, all its waits added up, gives the same trace and the same final state as
running it tick by tick, and the command is busy until the sum of its waits has passed. -/
def Obligations.AtomicReadingAgrees : Prop :=
  ∀ (s : State) (i : Instr), s.rst = false → (∃ w, encode i = .cmd w) →
    ∃ t, exec i s = .next t ∧
      (∀ k, k < duration (programOf s.cfg i) s.accepted → (ticks k t).busy = true) ∧
      ticks (duration (programOf s.cfg i) s.accepted) t = finish (programOf s.cfg i) s.accepted

/-- The state after reset meets the invariant. -/
def Obligations.ResetMeetsTheInvariant : Prop := State.reset.Inv

/-- Every step keeps the invariant. -/
def Obligations.EveryStepKeepsTheInvariant : Prop :=
  ∀ s t : State, s.Inv → step s = .next t → t.Inv

/-- R277: no step, and no reset, changes a parameter. -/
def Obligations.ParametersNeverChange : Prop :=
  ∀ s t : State, step s = .next t → t.cfg = s.cfg

/-- R34: no instruction but the two line writes ever asserts chip-select outside a frame: at its acceptance and after any
number of ticks, chip-select is asserted only in `InFrame`, or while `T_INIT` tests it. -/
def Obligations.ChipSelectOnlyInAFrame : Prop :=
  ∀ (s : State) (i : Instr), s.rst = false → s.busy = false → pokesLine i = false →
    (CsAsserted s → s.state = .inFrame) → ∀ t, exec i s = .next t → ∀ k,
      CsAsserted (ticks k t) → (ticks k t).state = .inFrame ∨ (i = .tInit ∧ (ticks k t).busy = true)

/-- R26: but for `rst`, a step changes `chsel` only where it accepts a DAC command in state `Idle` or `DAC_INIT` is running,
and it changes `dac_clk_en`, `dac_rst` or `ch_ready` only where it accepts `DAC_INIT` in state `Idle` or `DAC_INIT` is
running. So an idle block and a running frame keep all of them. -/
def Obligations.OnlyDacCommandsMoveTheAuxOutputs : Prop :=
  ∀ s t : State, s.Inv → step s = .next t → (nextInput s).1 ≠ .rst true →
    (t.chsel ≠ s.chsel → (s.state = .idle ∧ ∃ i, Accepts s i ∧ isDac i = true) ∨ Running s .dacInit) ∧
    ((t.dacClkEn ≠ s.dacClkEn ∨ t.dacRst ≠ s.dacRst ∨ t.chReady ≠ s.chReady) →
      (s.state = .idle ∧ Accepts s .dacInit) ∨ Running s .dacInit)

/-- R48: where the device begins to drive `DATA` while the block drives it, the model records the contention, and the
block's own state does not change. -/
def Obligations.ContentionIsRecorded : Prop :=
  ∀ (s : State) (rest : List Input), s.inputs = .device true :: rest →
    step s = .next { s with
      inputs := rest
      deviceDrives := true
      contention := if s.oe.data = true then s.time :: s.contention else s.contention }
end

