-- ==== Sys2Proof/Laws/Decode.lean ====
section
/-! SUPPORT. The fields of an encoded command word: each field reads back what was put into it (R81, R87). -/

namespace Sys2Proof

variable (op : BitVec 4) (sig : BitVec 2) (val : Bool) (ch : Channel) (reg data : Byte)

/-- The bits of a command word, by position (R81). -/
theorem getLsbD_cmdWord (i : Nat) : (cmdWord op sig val ch reg data).getLsbD i =
    if i < 4 then op.getLsbD i
    else if i < 6 then sig.getLsbD (i - 4)
    else if i = 6 then val
    else if i = 7 then false
    else if i < 11 then ch.getLsbD (i - 8)
    else if i < 16 then false
    else if i < 24 then reg.getLsbD (i - 16)
    else data.getLsbD (i - 24) := by
  simp only [cmdWord, BitVec.getLsbD_append]
  by_cases h : i < 24
  · interval_cases i <;> simp
  · have h1 : ¬i < 4 := by omega
    have h2 : ¬i - 4 < 2 := by omega
    have h3 : ¬i - 4 - 2 < 1 := by omega
    have h4 : ¬i - 4 - 2 - 1 < 1 := by omega
    have h5 : ¬i - 4 - 2 - 1 - 1 < 3 := by omega
    have h6 : ¬i - 4 - 2 - 1 - 1 - 3 < 5 := by omega
    have h7 : ¬i - 4 - 2 - 1 - 1 - 3 - 5 < 8 := by omega
    have h8 : ¬i < 6 := by omega
    have h9 : ¬i < 11 := by omega
    have h10 : ¬i < 16 := by omega
    have h11 : i ≠ 6 := by omega
    have h12 : i ≠ 7 := by omega
    have e : i - 4 - 2 - 1 - 1 - 3 - 5 - 8 = i - 24 := by omega
    simp only [h, h1, h2, h3, h4, h5, h6, h7, h8, h9, h10, h11, h12, e, if_false]

@[simp] theorem opField_cmdWord : opField (cmdWord op sig val ch reg data) = op := by
  apply BitVec.eq_of_getLsbD_eq
  intro i hi
  simp [opField, getLsbD_cmdWord, hi]

@[simp] theorem sigField_cmdWord : sigField (cmdWord op sig val ch reg data) = sig := by
  apply BitVec.eq_of_getLsbD_eq
  intro i hi
  have h : 4 + i < 6 := by omega
  simp [sigField, getLsbD_cmdWord, hi, h]

@[simp] theorem valField_cmdWord : valField (cmdWord op sig val ch reg data) = val := by
  simp only [valField, getLsbD_cmdWord]
  simp

@[simp] theorem chField_cmdWord : chField (cmdWord op sig val ch reg data) = ch := by
  apply BitVec.eq_of_getLsbD_eq
  intro i hi
  have h : 8 + i < 11 := by omega
  have h1 : ¬8 + i < 4 := by omega
  have h2 : ¬8 + i < 6 := by omega
  have h3 : 8 + i ≠ 6 := by omega
  have h4 : 8 + i ≠ 7 := by omega
  simp [chField, getLsbD_cmdWord, hi, h, h1, h2, h3, h4]

@[simp] theorem regField_cmdWord : regField (cmdWord op sig val ch reg data) = reg := by
  apply BitVec.eq_of_getLsbD_eq
  intro i hi
  have h1 : ¬16 + i < 4 := by omega
  have h2 : ¬16 + i < 6 := by omega
  have h3 : 16 + i ≠ 6 := by omega
  have h4 : 16 + i ≠ 7 := by omega
  have h5 : ¬16 + i < 11 := by omega
  have h6 : ¬16 + i < 16 := by omega
  have h7 : 16 + i < 24 := by omega
  simp [regField, getLsbD_cmdWord, hi, h1, h2, h3, h4, h5, h7]

@[simp] theorem dataField_cmdWord : dataField (cmdWord op sig val ch reg data) = data := by
  apply BitVec.eq_of_getLsbD_eq
  intro i hi
  have h1 : ¬24 + i < 4 := by omega
  have h2 : ¬24 + i < 6 := by omega
  have h3 : 24 + i ≠ 6 := by omega
  have h4 : 24 + i ≠ 7 := by omega
  have h5 : ¬24 + i < 11 := by omega
  have h6 : ¬24 + i < 16 := by omega
  have h7 : ¬24 + i < 24 := by omega
  simp [dataField, getLsbD_cmdWord, hi, h1, h2, h3, h4, h5, h6, h7]

/-- No reserved bit of a command word is set (R81). -/
@[simp] theorem reserved_cmdWord : cmdWord op sig val ch reg data &&& reservedMask = 0#32 := by
  apply BitVec.eq_of_getLsbD_eq
  intro i hi
  rw [BitVec.getLsbD_and, getLsbD_cmdWord, reservedMask]
  interval_cases i <;> simp

/-- The bits of a reserved word, given as its bits 31:4 and its `OP`. -/
theorem getLsbD_restWord (rest : BitVec 28) (i : Nat) :
    (rest ++ op : Word).getLsbD i = if i < 4 then op.getLsbD i else rest.getLsbD (i - 4) :=
  BitVec.getLsbD_append

theorem opField_restWord (rest : BitVec 28) : opField (rest ++ op) = op := by
  apply BitVec.eq_of_getLsbD_eq
  intro i hi
  rw [opField, BitVec.getLsbD_extractLsb', getLsbD_restWord]
  simp [hi]

theorem restField_restWord (rest : BitVec 28) : restField (rest ++ op) = rest := by
  apply BitVec.eq_of_getLsbD_eq
  intro i hi
  rw [restField, BitVec.getLsbD_extractLsb', getLsbD_restWord]
  simp [hi]

/-- The index of a signal names it. -/
@[simp] theorem signalOf_signalBits (s : Signal) : signalOf? (signalBits s) = some s := by
  cases s <;> rfl

theorem signalBits_ne_three (s : Signal) : signalBits s ≠ 3#2 := by
  cases s <;> decide

theorem decodeCmd_reserved {w : Word} (h : w &&& reservedMask ≠ 0#32) : decodeCmd w = .ok (.reservedBits w) := by
  simp only [decodeCmd, if_pos h]

end Sys2Proof
end

