-- ==== Sys2Proof/Laws/State.lean ====
section
/-! SUPPORT. What each named update of State does to each field: one lemma for each field and update. -/

namespace Sys2Proof.Machine

variable (s : State)

/-! ### State.emit -/

@[simp] theorem State.emit_cfg (c : Change) : (s.emit c).cfg = s.cfg := rfl
@[simp] theorem State.emit_oe (c : Change) : (s.emit c).oe = s.oe := rfl
@[simp] theorem State.emit_out (c : Change) : (s.emit c).out = s.out := rfl
@[simp] theorem State.emit_state (c : Change) : (s.emit c).state = s.state := rfl
@[simp] theorem State.emit_curCmd (c : Change) : (s.emit c).curCmd = s.curCmd := rfl
@[simp] theorem State.emit_busy (c : Change) : (s.emit c).busy = s.busy := rfl
@[simp] theorem State.emit_todo (c : Change) : (s.emit c).todo = s.todo := rfl
@[simp] theorem State.emit_waitCnt (c : Change) : (s.emit c).waitCnt = s.waitCnt := rfl
@[simp] theorem State.emit_shift (c : Change) : (s.emit c).shift = s.shift := rfl
@[simp] theorem State.emit_bitIdx (c : Change) : (s.emit c).bitIdx = s.bitIdx := rfl
@[simp] theorem State.emit_stH (c : Change) : (s.emit c).stH = s.stH := rfl
@[simp] theorem State.emit_stL (c : Change) : (s.emit c).stL = s.stL := rfl
@[simp] theorem State.emit_stRec (c : Change) : (s.emit c).stRec = s.stRec := rfl
@[simp] theorem State.emit_chIdx (c : Change) : (s.emit c).chIdx = s.chIdx := rfl
@[simp] theorem State.emit_stateAtAccept (c : Change) : (s.emit c).stateAtAccept = s.stateAtAccept := rfl
@[simp] theorem State.emit_stagedRdata (c : Change) : (s.emit c).stagedRdata = s.stagedRdata := rfl
@[simp] theorem State.emit_stagedReady (c : Change) : (s.emit c).stagedReady = s.stagedReady := rfl
@[simp] theorem State.emit_err (c : Change) : (s.emit c).err = s.err := rfl
@[simp] theorem State.emit_overrun (c : Change) : (s.emit c).overrun = s.overrun := rfl
@[simp] theorem State.emit_dacReady (c : Change) : (s.emit c).dacReady = s.dacReady := rfl
@[simp] theorem State.emit_rdata (c : Change) : (s.emit c).rdata = s.rdata := rfl
@[simp] theorem State.emit_senseBit (c : Change) : (s.emit c).senseBit = s.senseBit := rfl
@[simp] theorem State.emit_fault (c : Change) : (s.emit c).fault = s.fault := rfl
@[simp] theorem State.emit_chsel (c : Change) : (s.emit c).chsel = s.chsel := rfl
@[simp] theorem State.emit_dacClkEn (c : Change) : (s.emit c).dacClkEn = s.dacClkEn := rfl
@[simp] theorem State.emit_dacRst (c : Change) : (s.emit c).dacRst = s.dacRst := rfl
@[simp] theorem State.emit_chReady (c : Change) : (s.emit c).chReady = s.chReady := rfl
@[simp] theorem State.emit_time (c : Change) : (s.emit c).time = s.time := rfl
@[simp] theorem State.emit_rst (c : Change) : (s.emit c).rst = s.rst := rfl
@[simp] theorem State.emit_busData (c : Change) : (s.emit c).busData = s.busData := rfl
@[simp] theorem State.emit_trace (c : Change) : (s.emit c).trace = ⟨s.time, c⟩ :: s.trace := rfl
@[simp] theorem State.emit_contention (c : Change) : (s.emit c).contention = s.contention := rfl
@[simp] theorem State.emit_deviceDrives (c : Change) : (s.emit c).deviceDrives = s.deviceDrives := rfl
@[simp] theorem State.emit_inputs (c : Change) : (s.emit c).inputs = s.inputs := rfl
@[simp] theorem State.emit_draws (c : Change) : (s.emit c).draws = s.draws := rfl
@[simp] theorem State.emit_drawCount (c : Change) : (s.emit c).drawCount = s.drawCount := rfl

/-! ### State.setOut -/

@[simp] theorem State.setOut_cfg (sig : Signal) (v : Bool) : (s.setOut sig v).cfg = s.cfg := rfl
@[simp] theorem State.setOut_oe (sig : Signal) (v : Bool) : (s.setOut sig v).oe = s.oe := rfl
@[simp] theorem State.setOut_out (sig : Signal) (v : Bool) : (s.setOut sig v).out = s.out.set sig v := rfl
@[simp] theorem State.setOut_state (sig : Signal) (v : Bool) : (s.setOut sig v).state = s.state := rfl
@[simp] theorem State.setOut_curCmd (sig : Signal) (v : Bool) : (s.setOut sig v).curCmd = s.curCmd := rfl
@[simp] theorem State.setOut_busy (sig : Signal) (v : Bool) : (s.setOut sig v).busy = s.busy := rfl
@[simp] theorem State.setOut_todo (sig : Signal) (v : Bool) : (s.setOut sig v).todo = s.todo := rfl
@[simp] theorem State.setOut_waitCnt (sig : Signal) (v : Bool) : (s.setOut sig v).waitCnt = s.waitCnt := rfl
@[simp] theorem State.setOut_shift (sig : Signal) (v : Bool) : (s.setOut sig v).shift = s.shift := rfl
@[simp] theorem State.setOut_bitIdx (sig : Signal) (v : Bool) : (s.setOut sig v).bitIdx = s.bitIdx := rfl
@[simp] theorem State.setOut_stH (sig : Signal) (v : Bool) : (s.setOut sig v).stH = s.stH := rfl
@[simp] theorem State.setOut_stL (sig : Signal) (v : Bool) : (s.setOut sig v).stL = s.stL := rfl
@[simp] theorem State.setOut_stRec (sig : Signal) (v : Bool) : (s.setOut sig v).stRec = s.stRec := rfl
@[simp] theorem State.setOut_chIdx (sig : Signal) (v : Bool) : (s.setOut sig v).chIdx = s.chIdx := rfl
@[simp] theorem State.setOut_stateAtAccept (sig : Signal) (v : Bool) : (s.setOut sig v).stateAtAccept = s.stateAtAccept := rfl
@[simp] theorem State.setOut_stagedRdata (sig : Signal) (v : Bool) : (s.setOut sig v).stagedRdata = s.stagedRdata := rfl
@[simp] theorem State.setOut_stagedReady (sig : Signal) (v : Bool) : (s.setOut sig v).stagedReady = s.stagedReady := rfl
@[simp] theorem State.setOut_err (sig : Signal) (v : Bool) : (s.setOut sig v).err = s.err := rfl
@[simp] theorem State.setOut_overrun (sig : Signal) (v : Bool) : (s.setOut sig v).overrun = s.overrun := rfl
@[simp] theorem State.setOut_dacReady (sig : Signal) (v : Bool) : (s.setOut sig v).dacReady = s.dacReady := rfl
@[simp] theorem State.setOut_rdata (sig : Signal) (v : Bool) : (s.setOut sig v).rdata = s.rdata := rfl
@[simp] theorem State.setOut_senseBit (sig : Signal) (v : Bool) : (s.setOut sig v).senseBit = s.senseBit := rfl
@[simp] theorem State.setOut_fault (sig : Signal) (v : Bool) : (s.setOut sig v).fault = s.fault := rfl
@[simp] theorem State.setOut_chsel (sig : Signal) (v : Bool) : (s.setOut sig v).chsel = s.chsel := rfl
@[simp] theorem State.setOut_dacClkEn (sig : Signal) (v : Bool) : (s.setOut sig v).dacClkEn = s.dacClkEn := rfl
@[simp] theorem State.setOut_dacRst (sig : Signal) (v : Bool) : (s.setOut sig v).dacRst = s.dacRst := rfl
@[simp] theorem State.setOut_chReady (sig : Signal) (v : Bool) : (s.setOut sig v).chReady = s.chReady := rfl
@[simp] theorem State.setOut_time (sig : Signal) (v : Bool) : (s.setOut sig v).time = s.time := rfl
@[simp] theorem State.setOut_rst (sig : Signal) (v : Bool) : (s.setOut sig v).rst = s.rst := rfl
@[simp] theorem State.setOut_busData (sig : Signal) (v : Bool) : (s.setOut sig v).busData = s.busData := rfl
@[simp] theorem State.setOut_trace (sig : Signal) (v : Bool) : (s.setOut sig v).trace = ⟨s.time, .out sig v⟩ :: s.trace := rfl
@[simp] theorem State.setOut_contention (sig : Signal) (v : Bool) : (s.setOut sig v).contention = s.contention := rfl
@[simp] theorem State.setOut_deviceDrives (sig : Signal) (v : Bool) : (s.setOut sig v).deviceDrives = s.deviceDrives := rfl
@[simp] theorem State.setOut_inputs (sig : Signal) (v : Bool) : (s.setOut sig v).inputs = s.inputs := rfl
@[simp] theorem State.setOut_draws (sig : Signal) (v : Bool) : (s.setOut sig v).draws = s.draws := rfl
@[simp] theorem State.setOut_drawCount (sig : Signal) (v : Bool) : (s.setOut sig v).drawCount = s.drawCount := rfl

/-! ### State.setChsel -/

@[simp] theorem State.setChsel_cfg (c : Channel) : (s.setChsel c).cfg = s.cfg := rfl
@[simp] theorem State.setChsel_oe (c : Channel) : (s.setChsel c).oe = s.oe := rfl
@[simp] theorem State.setChsel_out (c : Channel) : (s.setChsel c).out = s.out := rfl
@[simp] theorem State.setChsel_state (c : Channel) : (s.setChsel c).state = s.state := rfl
@[simp] theorem State.setChsel_curCmd (c : Channel) : (s.setChsel c).curCmd = s.curCmd := rfl
@[simp] theorem State.setChsel_busy (c : Channel) : (s.setChsel c).busy = s.busy := rfl
@[simp] theorem State.setChsel_todo (c : Channel) : (s.setChsel c).todo = s.todo := rfl
@[simp] theorem State.setChsel_waitCnt (c : Channel) : (s.setChsel c).waitCnt = s.waitCnt := rfl
@[simp] theorem State.setChsel_shift (c : Channel) : (s.setChsel c).shift = s.shift := rfl
@[simp] theorem State.setChsel_bitIdx (c : Channel) : (s.setChsel c).bitIdx = s.bitIdx := rfl
@[simp] theorem State.setChsel_stH (c : Channel) : (s.setChsel c).stH = s.stH := rfl
@[simp] theorem State.setChsel_stL (c : Channel) : (s.setChsel c).stL = s.stL := rfl
@[simp] theorem State.setChsel_stRec (c : Channel) : (s.setChsel c).stRec = s.stRec := rfl
@[simp] theorem State.setChsel_chIdx (c : Channel) : (s.setChsel c).chIdx = s.chIdx := rfl
@[simp] theorem State.setChsel_stateAtAccept (c : Channel) : (s.setChsel c).stateAtAccept = s.stateAtAccept := rfl
@[simp] theorem State.setChsel_stagedRdata (c : Channel) : (s.setChsel c).stagedRdata = s.stagedRdata := rfl
@[simp] theorem State.setChsel_stagedReady (c : Channel) : (s.setChsel c).stagedReady = s.stagedReady := rfl
@[simp] theorem State.setChsel_err (c : Channel) : (s.setChsel c).err = s.err := rfl
@[simp] theorem State.setChsel_overrun (c : Channel) : (s.setChsel c).overrun = s.overrun := rfl
@[simp] theorem State.setChsel_dacReady (c : Channel) : (s.setChsel c).dacReady = s.dacReady := rfl
@[simp] theorem State.setChsel_rdata (c : Channel) : (s.setChsel c).rdata = s.rdata := rfl
@[simp] theorem State.setChsel_senseBit (c : Channel) : (s.setChsel c).senseBit = s.senseBit := rfl
@[simp] theorem State.setChsel_fault (c : Channel) : (s.setChsel c).fault = s.fault := rfl
@[simp] theorem State.setChsel_chsel (c : Channel) : (s.setChsel c).chsel = c := rfl
@[simp] theorem State.setChsel_dacClkEn (c : Channel) : (s.setChsel c).dacClkEn = s.dacClkEn := rfl
@[simp] theorem State.setChsel_dacRst (c : Channel) : (s.setChsel c).dacRst = s.dacRst := rfl
@[simp] theorem State.setChsel_chReady (c : Channel) : (s.setChsel c).chReady = s.chReady := rfl
@[simp] theorem State.setChsel_time (c : Channel) : (s.setChsel c).time = s.time := rfl
@[simp] theorem State.setChsel_rst (c : Channel) : (s.setChsel c).rst = s.rst := rfl
@[simp] theorem State.setChsel_busData (c : Channel) : (s.setChsel c).busData = s.busData := rfl
@[simp] theorem State.setChsel_trace (c : Channel) : (s.setChsel c).trace = ⟨s.time, .chsel c⟩ :: s.trace := rfl
@[simp] theorem State.setChsel_contention (c : Channel) : (s.setChsel c).contention = s.contention := rfl
@[simp] theorem State.setChsel_deviceDrives (c : Channel) : (s.setChsel c).deviceDrives = s.deviceDrives := rfl
@[simp] theorem State.setChsel_inputs (c : Channel) : (s.setChsel c).inputs = s.inputs := rfl
@[simp] theorem State.setChsel_draws (c : Channel) : (s.setChsel c).draws = s.draws := rfl
@[simp] theorem State.setChsel_drawCount (c : Channel) : (s.setChsel c).drawCount = s.drawCount := rfl

/-! ### State.setDacClkEn -/

@[simp] theorem State.setDacClkEn_cfg (v : Bool) : (s.setDacClkEn v).cfg = s.cfg := rfl
@[simp] theorem State.setDacClkEn_oe (v : Bool) : (s.setDacClkEn v).oe = s.oe := rfl
@[simp] theorem State.setDacClkEn_out (v : Bool) : (s.setDacClkEn v).out = s.out := rfl
@[simp] theorem State.setDacClkEn_state (v : Bool) : (s.setDacClkEn v).state = s.state := rfl
@[simp] theorem State.setDacClkEn_curCmd (v : Bool) : (s.setDacClkEn v).curCmd = s.curCmd := rfl
@[simp] theorem State.setDacClkEn_busy (v : Bool) : (s.setDacClkEn v).busy = s.busy := rfl
@[simp] theorem State.setDacClkEn_todo (v : Bool) : (s.setDacClkEn v).todo = s.todo := rfl
@[simp] theorem State.setDacClkEn_waitCnt (v : Bool) : (s.setDacClkEn v).waitCnt = s.waitCnt := rfl
@[simp] theorem State.setDacClkEn_shift (v : Bool) : (s.setDacClkEn v).shift = s.shift := rfl
@[simp] theorem State.setDacClkEn_bitIdx (v : Bool) : (s.setDacClkEn v).bitIdx = s.bitIdx := rfl
@[simp] theorem State.setDacClkEn_stH (v : Bool) : (s.setDacClkEn v).stH = s.stH := rfl
@[simp] theorem State.setDacClkEn_stL (v : Bool) : (s.setDacClkEn v).stL = s.stL := rfl
@[simp] theorem State.setDacClkEn_stRec (v : Bool) : (s.setDacClkEn v).stRec = s.stRec := rfl
@[simp] theorem State.setDacClkEn_chIdx (v : Bool) : (s.setDacClkEn v).chIdx = s.chIdx := rfl
@[simp] theorem State.setDacClkEn_stateAtAccept (v : Bool) : (s.setDacClkEn v).stateAtAccept = s.stateAtAccept := rfl
@[simp] theorem State.setDacClkEn_stagedRdata (v : Bool) : (s.setDacClkEn v).stagedRdata = s.stagedRdata := rfl
@[simp] theorem State.setDacClkEn_stagedReady (v : Bool) : (s.setDacClkEn v).stagedReady = s.stagedReady := rfl
@[simp] theorem State.setDacClkEn_err (v : Bool) : (s.setDacClkEn v).err = s.err := rfl
@[simp] theorem State.setDacClkEn_overrun (v : Bool) : (s.setDacClkEn v).overrun = s.overrun := rfl
@[simp] theorem State.setDacClkEn_dacReady (v : Bool) : (s.setDacClkEn v).dacReady = s.dacReady := rfl
@[simp] theorem State.setDacClkEn_rdata (v : Bool) : (s.setDacClkEn v).rdata = s.rdata := rfl
@[simp] theorem State.setDacClkEn_senseBit (v : Bool) : (s.setDacClkEn v).senseBit = s.senseBit := rfl
@[simp] theorem State.setDacClkEn_fault (v : Bool) : (s.setDacClkEn v).fault = s.fault := rfl
@[simp] theorem State.setDacClkEn_chsel (v : Bool) : (s.setDacClkEn v).chsel = s.chsel := rfl
@[simp] theorem State.setDacClkEn_dacClkEn (v : Bool) : (s.setDacClkEn v).dacClkEn = v := rfl
@[simp] theorem State.setDacClkEn_dacRst (v : Bool) : (s.setDacClkEn v).dacRst = s.dacRst := rfl
@[simp] theorem State.setDacClkEn_chReady (v : Bool) : (s.setDacClkEn v).chReady = s.chReady := rfl
@[simp] theorem State.setDacClkEn_time (v : Bool) : (s.setDacClkEn v).time = s.time := rfl
@[simp] theorem State.setDacClkEn_rst (v : Bool) : (s.setDacClkEn v).rst = s.rst := rfl
@[simp] theorem State.setDacClkEn_busData (v : Bool) : (s.setDacClkEn v).busData = s.busData := rfl
@[simp] theorem State.setDacClkEn_trace (v : Bool) : (s.setDacClkEn v).trace = ⟨s.time, .dacClkEn v⟩ :: s.trace := rfl
@[simp] theorem State.setDacClkEn_contention (v : Bool) : (s.setDacClkEn v).contention = s.contention := rfl
@[simp] theorem State.setDacClkEn_deviceDrives (v : Bool) : (s.setDacClkEn v).deviceDrives = s.deviceDrives := rfl
@[simp] theorem State.setDacClkEn_inputs (v : Bool) : (s.setDacClkEn v).inputs = s.inputs := rfl
@[simp] theorem State.setDacClkEn_draws (v : Bool) : (s.setDacClkEn v).draws = s.draws := rfl
@[simp] theorem State.setDacClkEn_drawCount (v : Bool) : (s.setDacClkEn v).drawCount = s.drawCount := rfl

/-! ### State.setDacRst -/

@[simp] theorem State.setDacRst_cfg (v : Bool) : (s.setDacRst v).cfg = s.cfg := rfl
@[simp] theorem State.setDacRst_oe (v : Bool) : (s.setDacRst v).oe = s.oe := rfl
@[simp] theorem State.setDacRst_out (v : Bool) : (s.setDacRst v).out = s.out := rfl
@[simp] theorem State.setDacRst_state (v : Bool) : (s.setDacRst v).state = s.state := rfl
@[simp] theorem State.setDacRst_curCmd (v : Bool) : (s.setDacRst v).curCmd = s.curCmd := rfl
@[simp] theorem State.setDacRst_busy (v : Bool) : (s.setDacRst v).busy = s.busy := rfl
@[simp] theorem State.setDacRst_todo (v : Bool) : (s.setDacRst v).todo = s.todo := rfl
@[simp] theorem State.setDacRst_waitCnt (v : Bool) : (s.setDacRst v).waitCnt = s.waitCnt := rfl
@[simp] theorem State.setDacRst_shift (v : Bool) : (s.setDacRst v).shift = s.shift := rfl
@[simp] theorem State.setDacRst_bitIdx (v : Bool) : (s.setDacRst v).bitIdx = s.bitIdx := rfl
@[simp] theorem State.setDacRst_stH (v : Bool) : (s.setDacRst v).stH = s.stH := rfl
@[simp] theorem State.setDacRst_stL (v : Bool) : (s.setDacRst v).stL = s.stL := rfl
@[simp] theorem State.setDacRst_stRec (v : Bool) : (s.setDacRst v).stRec = s.stRec := rfl
@[simp] theorem State.setDacRst_chIdx (v : Bool) : (s.setDacRst v).chIdx = s.chIdx := rfl
@[simp] theorem State.setDacRst_stateAtAccept (v : Bool) : (s.setDacRst v).stateAtAccept = s.stateAtAccept := rfl
@[simp] theorem State.setDacRst_stagedRdata (v : Bool) : (s.setDacRst v).stagedRdata = s.stagedRdata := rfl
@[simp] theorem State.setDacRst_stagedReady (v : Bool) : (s.setDacRst v).stagedReady = s.stagedReady := rfl
@[simp] theorem State.setDacRst_err (v : Bool) : (s.setDacRst v).err = s.err := rfl
@[simp] theorem State.setDacRst_overrun (v : Bool) : (s.setDacRst v).overrun = s.overrun := rfl
@[simp] theorem State.setDacRst_dacReady (v : Bool) : (s.setDacRst v).dacReady = s.dacReady := rfl
@[simp] theorem State.setDacRst_rdata (v : Bool) : (s.setDacRst v).rdata = s.rdata := rfl
@[simp] theorem State.setDacRst_senseBit (v : Bool) : (s.setDacRst v).senseBit = s.senseBit := rfl
@[simp] theorem State.setDacRst_fault (v : Bool) : (s.setDacRst v).fault = s.fault := rfl
@[simp] theorem State.setDacRst_chsel (v : Bool) : (s.setDacRst v).chsel = s.chsel := rfl
@[simp] theorem State.setDacRst_dacClkEn (v : Bool) : (s.setDacRst v).dacClkEn = s.dacClkEn := rfl
@[simp] theorem State.setDacRst_dacRst (v : Bool) : (s.setDacRst v).dacRst = v := rfl
@[simp] theorem State.setDacRst_chReady (v : Bool) : (s.setDacRst v).chReady = s.chReady := rfl
@[simp] theorem State.setDacRst_time (v : Bool) : (s.setDacRst v).time = s.time := rfl
@[simp] theorem State.setDacRst_rst (v : Bool) : (s.setDacRst v).rst = s.rst := rfl
@[simp] theorem State.setDacRst_busData (v : Bool) : (s.setDacRst v).busData = s.busData := rfl
@[simp] theorem State.setDacRst_trace (v : Bool) : (s.setDacRst v).trace = ⟨s.time, .dacRst v⟩ :: s.trace := rfl
@[simp] theorem State.setDacRst_contention (v : Bool) : (s.setDacRst v).contention = s.contention := rfl
@[simp] theorem State.setDacRst_deviceDrives (v : Bool) : (s.setDacRst v).deviceDrives = s.deviceDrives := rfl
@[simp] theorem State.setDacRst_inputs (v : Bool) : (s.setDacRst v).inputs = s.inputs := rfl
@[simp] theorem State.setDacRst_draws (v : Bool) : (s.setDacRst v).draws = s.draws := rfl
@[simp] theorem State.setDacRst_drawCount (v : Bool) : (s.setDacRst v).drawCount = s.drawCount := rfl

/-! ### State.setChReady -/

@[simp] theorem State.setChReady_cfg (c : Channel) (v : Bool) : (s.setChReady c v).cfg = s.cfg := rfl
@[simp] theorem State.setChReady_oe (c : Channel) (v : Bool) : (s.setChReady c v).oe = s.oe := rfl
@[simp] theorem State.setChReady_out (c : Channel) (v : Bool) : (s.setChReady c v).out = s.out := rfl
@[simp] theorem State.setChReady_state (c : Channel) (v : Bool) : (s.setChReady c v).state = s.state := rfl
@[simp] theorem State.setChReady_curCmd (c : Channel) (v : Bool) : (s.setChReady c v).curCmd = s.curCmd := rfl
@[simp] theorem State.setChReady_busy (c : Channel) (v : Bool) : (s.setChReady c v).busy = s.busy := rfl
@[simp] theorem State.setChReady_todo (c : Channel) (v : Bool) : (s.setChReady c v).todo = s.todo := rfl
@[simp] theorem State.setChReady_waitCnt (c : Channel) (v : Bool) : (s.setChReady c v).waitCnt = s.waitCnt := rfl
@[simp] theorem State.setChReady_shift (c : Channel) (v : Bool) : (s.setChReady c v).shift = s.shift := rfl
@[simp] theorem State.setChReady_bitIdx (c : Channel) (v : Bool) : (s.setChReady c v).bitIdx = s.bitIdx := rfl
@[simp] theorem State.setChReady_stH (c : Channel) (v : Bool) : (s.setChReady c v).stH = s.stH := rfl
@[simp] theorem State.setChReady_stL (c : Channel) (v : Bool) : (s.setChReady c v).stL = s.stL := rfl
@[simp] theorem State.setChReady_stRec (c : Channel) (v : Bool) : (s.setChReady c v).stRec = s.stRec := rfl
@[simp] theorem State.setChReady_chIdx (c : Channel) (v : Bool) : (s.setChReady c v).chIdx = s.chIdx := rfl
@[simp] theorem State.setChReady_stateAtAccept (c : Channel) (v : Bool) : (s.setChReady c v).stateAtAccept = s.stateAtAccept := rfl
@[simp] theorem State.setChReady_stagedRdata (c : Channel) (v : Bool) : (s.setChReady c v).stagedRdata = s.stagedRdata := rfl
@[simp] theorem State.setChReady_stagedReady (c : Channel) (v : Bool) : (s.setChReady c v).stagedReady = s.stagedReady := rfl
@[simp] theorem State.setChReady_err (c : Channel) (v : Bool) : (s.setChReady c v).err = s.err := rfl
@[simp] theorem State.setChReady_overrun (c : Channel) (v : Bool) : (s.setChReady c v).overrun = s.overrun := rfl
@[simp] theorem State.setChReady_dacReady (c : Channel) (v : Bool) : (s.setChReady c v).dacReady = s.dacReady := rfl
@[simp] theorem State.setChReady_rdata (c : Channel) (v : Bool) : (s.setChReady c v).rdata = s.rdata := rfl
@[simp] theorem State.setChReady_senseBit (c : Channel) (v : Bool) : (s.setChReady c v).senseBit = s.senseBit := rfl
@[simp] theorem State.setChReady_fault (c : Channel) (v : Bool) : (s.setChReady c v).fault = s.fault := rfl
@[simp] theorem State.setChReady_chsel (c : Channel) (v : Bool) : (s.setChReady c v).chsel = s.chsel := rfl
@[simp] theorem State.setChReady_dacClkEn (c : Channel) (v : Bool) : (s.setChReady c v).dacClkEn = s.dacClkEn := rfl
@[simp] theorem State.setChReady_dacRst (c : Channel) (v : Bool) : (s.setChReady c v).dacRst = s.dacRst := rfl
@[simp] theorem State.setChReady_chReady (c : Channel) (v : Bool) : (s.setChReady c v).chReady = setBit s.chReady c v := rfl
@[simp] theorem State.setChReady_time (c : Channel) (v : Bool) : (s.setChReady c v).time = s.time := rfl
@[simp] theorem State.setChReady_rst (c : Channel) (v : Bool) : (s.setChReady c v).rst = s.rst := rfl
@[simp] theorem State.setChReady_busData (c : Channel) (v : Bool) : (s.setChReady c v).busData = s.busData := rfl
@[simp] theorem State.setChReady_trace (c : Channel) (v : Bool) : (s.setChReady c v).trace = ⟨s.time, .chReady c v⟩ :: s.trace := rfl
@[simp] theorem State.setChReady_contention (c : Channel) (v : Bool) : (s.setChReady c v).contention = s.contention := rfl
@[simp] theorem State.setChReady_deviceDrives (c : Channel) (v : Bool) : (s.setChReady c v).deviceDrives = s.deviceDrives := rfl
@[simp] theorem State.setChReady_inputs (c : Channel) (v : Bool) : (s.setChReady c v).inputs = s.inputs := rfl
@[simp] theorem State.setChReady_draws (c : Channel) (v : Bool) : (s.setChReady c v).draws = s.draws := rfl
@[simp] theorem State.setChReady_drawCount (c : Channel) (v : Bool) : (s.setChReady c v).drawCount = s.drawCount := rfl

/-! ### State.sampled -/

@[simp] theorem State.sampled_cfg : (s.sampled).cfg = s.cfg := rfl
@[simp] theorem State.sampled_oe : (s.sampled).oe = s.oe := rfl
@[simp] theorem State.sampled_out : (s.sampled).out = s.out := rfl
@[simp] theorem State.sampled_state : (s.sampled).state = s.state := rfl
@[simp] theorem State.sampled_curCmd : (s.sampled).curCmd = s.curCmd := rfl
@[simp] theorem State.sampled_busy : (s.sampled).busy = s.busy := rfl
@[simp] theorem State.sampled_todo : (s.sampled).todo = s.todo := rfl
@[simp] theorem State.sampled_waitCnt : (s.sampled).waitCnt = s.waitCnt := rfl
@[simp] theorem State.sampled_shift : (s.sampled).shift = s.shift := rfl
@[simp] theorem State.sampled_bitIdx : (s.sampled).bitIdx = s.bitIdx := rfl
@[simp] theorem State.sampled_stH : (s.sampled).stH = s.stH := rfl
@[simp] theorem State.sampled_stL : (s.sampled).stL = s.stL := rfl
@[simp] theorem State.sampled_stRec : (s.sampled).stRec = s.stRec := rfl
@[simp] theorem State.sampled_chIdx : (s.sampled).chIdx = s.chIdx := rfl
@[simp] theorem State.sampled_stateAtAccept : (s.sampled).stateAtAccept = s.stateAtAccept := rfl
@[simp] theorem State.sampled_stagedRdata : (s.sampled).stagedRdata = s.stagedRdata := rfl
@[simp] theorem State.sampled_stagedReady : (s.sampled).stagedReady = s.stagedReady := rfl
@[simp] theorem State.sampled_err : (s.sampled).err = s.err := rfl
@[simp] theorem State.sampled_overrun : (s.sampled).overrun = s.overrun := rfl
@[simp] theorem State.sampled_dacReady : (s.sampled).dacReady = s.dacReady := rfl
@[simp] theorem State.sampled_rdata : (s.sampled).rdata = s.rdata := rfl
@[simp] theorem State.sampled_senseBit : (s.sampled).senseBit = s.senseBit := rfl
@[simp] theorem State.sampled_fault : (s.sampled).fault = s.fault := rfl
@[simp] theorem State.sampled_chsel : (s.sampled).chsel = s.chsel := rfl
@[simp] theorem State.sampled_dacClkEn : (s.sampled).dacClkEn = s.dacClkEn := rfl
@[simp] theorem State.sampled_dacRst : (s.sampled).dacRst = s.dacRst := rfl
@[simp] theorem State.sampled_chReady : (s.sampled).chReady = s.chReady := rfl
@[simp] theorem State.sampled_time : (s.sampled).time = s.time := rfl
@[simp] theorem State.sampled_rst : (s.sampled).rst = s.rst := rfl
@[simp] theorem State.sampled_busData : (s.sampled).busData = s.busData := rfl
@[simp] theorem State.sampled_trace : (s.sampled).trace = s.trace := rfl
@[simp] theorem State.sampled_contention : (s.sampled).contention = s.contention := rfl
@[simp] theorem State.sampled_deviceDrives : (s.sampled).deviceDrives = s.deviceDrives := rfl
@[simp] theorem State.sampled_inputs : (s.sampled).inputs = s.inputs := rfl
@[simp] theorem State.sampled_draws : (s.sampled).draws = s.draws.tail := rfl
@[simp] theorem State.sampled_drawCount : (s.sampled).drawCount = s.drawCount + 1 := rfl

/-! ### State.accepted -/

@[simp] theorem State.accepted_cfg : (s.accepted).cfg = s.cfg := rfl
@[simp] theorem State.accepted_oe : (s.accepted).oe = s.oe := rfl
@[simp] theorem State.accepted_out : (s.accepted).out = s.out := rfl
@[simp] theorem State.accepted_state : (s.accepted).state = s.state := rfl
@[simp] theorem State.accepted_curCmd : (s.accepted).curCmd = s.curCmd := rfl
@[simp] theorem State.accepted_busy : (s.accepted).busy = true := rfl
@[simp] theorem State.accepted_todo : (s.accepted).todo = [] := rfl
@[simp] theorem State.accepted_waitCnt : (s.accepted).waitCnt = 0 := rfl
@[simp] theorem State.accepted_shift : (s.accepted).shift = s.shift := rfl
@[simp] theorem State.accepted_bitIdx : (s.accepted).bitIdx = s.bitIdx := rfl
@[simp] theorem State.accepted_stH : (s.accepted).stH = s.stH := rfl
@[simp] theorem State.accepted_stL : (s.accepted).stL = s.stL := rfl
@[simp] theorem State.accepted_stRec : (s.accepted).stRec = s.stRec := rfl
@[simp] theorem State.accepted_chIdx : (s.accepted).chIdx = s.chIdx := rfl
@[simp] theorem State.accepted_stateAtAccept : (s.accepted).stateAtAccept = s.state := rfl
@[simp] theorem State.accepted_stagedRdata : (s.accepted).stagedRdata = none := rfl
@[simp] theorem State.accepted_stagedReady : (s.accepted).stagedReady = none := rfl
@[simp] theorem State.accepted_err : (s.accepted).err = s.err := rfl
@[simp] theorem State.accepted_overrun : (s.accepted).overrun = s.overrun := rfl
@[simp] theorem State.accepted_dacReady : (s.accepted).dacReady = s.dacReady := rfl
@[simp] theorem State.accepted_rdata : (s.accepted).rdata = s.rdata := rfl
@[simp] theorem State.accepted_senseBit : (s.accepted).senseBit = s.senseBit := rfl
@[simp] theorem State.accepted_fault : (s.accepted).fault = s.fault := rfl
@[simp] theorem State.accepted_chsel : (s.accepted).chsel = s.chsel := rfl
@[simp] theorem State.accepted_dacClkEn : (s.accepted).dacClkEn = s.dacClkEn := rfl
@[simp] theorem State.accepted_dacRst : (s.accepted).dacRst = s.dacRst := rfl
@[simp] theorem State.accepted_chReady : (s.accepted).chReady = s.chReady := rfl
@[simp] theorem State.accepted_time : (s.accepted).time = s.time := rfl
@[simp] theorem State.accepted_rst : (s.accepted).rst = s.rst := rfl
@[simp] theorem State.accepted_busData : (s.accepted).busData = s.busData := rfl
@[simp] theorem State.accepted_trace : (s.accepted).trace = s.trace := rfl
@[simp] theorem State.accepted_contention : (s.accepted).contention = s.contention := rfl
@[simp] theorem State.accepted_deviceDrives : (s.accepted).deviceDrives = s.deviceDrives := rfl
@[simp] theorem State.accepted_inputs : (s.accepted).inputs = s.inputs := rfl
@[simp] theorem State.accepted_draws : (s.accepted).draws = s.draws := rfl
@[simp] theorem State.accepted_drawCount : (s.accepted).drawCount = s.drawCount := rfl

/-! ### State.complete -/

@[simp] theorem State.complete_cfg : (s.complete).cfg = s.cfg := rfl
@[simp] theorem State.complete_oe : (s.complete).oe = s.oe := rfl
@[simp] theorem State.complete_out : (s.complete).out = s.out := rfl
@[simp] theorem State.complete_state : (s.complete).state = s.state := rfl
@[simp] theorem State.complete_curCmd : (s.complete).curCmd = s.curCmd := rfl
@[simp] theorem State.complete_busy : (s.complete).busy = false := rfl
@[simp] theorem State.complete_todo : (s.complete).todo = [] := rfl
@[simp] theorem State.complete_waitCnt : (s.complete).waitCnt = 0 := rfl
@[simp] theorem State.complete_shift : (s.complete).shift = s.shift := rfl
@[simp] theorem State.complete_bitIdx : (s.complete).bitIdx = s.bitIdx := rfl
@[simp] theorem State.complete_stH : (s.complete).stH = s.stH := rfl
@[simp] theorem State.complete_stL : (s.complete).stL = s.stL := rfl
@[simp] theorem State.complete_stRec : (s.complete).stRec = s.stRec := rfl
@[simp] theorem State.complete_chIdx : (s.complete).chIdx = s.chIdx := rfl
@[simp] theorem State.complete_stateAtAccept : (s.complete).stateAtAccept = s.stateAtAccept := rfl
@[simp] theorem State.complete_stagedRdata : (s.complete).stagedRdata = none := rfl
@[simp] theorem State.complete_stagedReady : (s.complete).stagedReady = none := rfl
@[simp] theorem State.complete_err : (s.complete).err = s.err := rfl
@[simp] theorem State.complete_overrun : (s.complete).overrun = s.overrun := rfl
@[simp] theorem State.complete_dacReady : (s.complete).dacReady = s.stagedReady.getD s.dacReady := rfl
@[simp] theorem State.complete_rdata : (s.complete).rdata = s.stagedRdata.getD s.rdata := rfl
@[simp] theorem State.complete_senseBit : (s.complete).senseBit = s.senseBit := rfl
@[simp] theorem State.complete_fault : (s.complete).fault = s.fault := rfl
@[simp] theorem State.complete_chsel : (s.complete).chsel = s.chsel := rfl
@[simp] theorem State.complete_dacClkEn : (s.complete).dacClkEn = s.dacClkEn := rfl
@[simp] theorem State.complete_dacRst : (s.complete).dacRst = s.dacRst := rfl
@[simp] theorem State.complete_chReady : (s.complete).chReady = s.chReady := rfl
@[simp] theorem State.complete_time : (s.complete).time = s.time := rfl
@[simp] theorem State.complete_rst : (s.complete).rst = s.rst := rfl
@[simp] theorem State.complete_busData : (s.complete).busData = s.busData := rfl
@[simp] theorem State.complete_trace : (s.complete).trace = s.trace := rfl
@[simp] theorem State.complete_contention : (s.complete).contention = s.contention := rfl
@[simp] theorem State.complete_deviceDrives : (s.complete).deviceDrives = s.deviceDrives := rfl
@[simp] theorem State.complete_inputs : (s.complete).inputs = s.inputs := rfl
@[simp] theorem State.complete_draws : (s.complete).draws = s.draws := rfl
@[simp] theorem State.complete_drawCount : (s.complete).drawCount = s.drawCount := rfl

/-! ### State.ok -/

@[simp] theorem State.ok_cfg : (s.ok).cfg = s.cfg := rfl
@[simp] theorem State.ok_oe : (s.ok).oe = s.oe := rfl
@[simp] theorem State.ok_out : (s.ok).out = s.out := rfl
@[simp] theorem State.ok_state : (s.ok).state = s.state := rfl
@[simp] theorem State.ok_curCmd : (s.ok).curCmd = s.curCmd := rfl
@[simp] theorem State.ok_busy : (s.ok).busy = false := rfl
@[simp] theorem State.ok_todo : (s.ok).todo = [] := rfl
@[simp] theorem State.ok_waitCnt : (s.ok).waitCnt = 0 := rfl
@[simp] theorem State.ok_shift : (s.ok).shift = s.shift := rfl
@[simp] theorem State.ok_bitIdx : (s.ok).bitIdx = s.bitIdx := rfl
@[simp] theorem State.ok_stH : (s.ok).stH = s.stH := rfl
@[simp] theorem State.ok_stL : (s.ok).stL = s.stL := rfl
@[simp] theorem State.ok_stRec : (s.ok).stRec = s.stRec := rfl
@[simp] theorem State.ok_chIdx : (s.ok).chIdx = s.chIdx := rfl
@[simp] theorem State.ok_stateAtAccept : (s.ok).stateAtAccept = s.stateAtAccept := rfl
@[simp] theorem State.ok_stagedRdata : (s.ok).stagedRdata = none := rfl
@[simp] theorem State.ok_stagedReady : (s.ok).stagedReady = none := rfl
@[simp] theorem State.ok_err : (s.ok).err = false := rfl
@[simp] theorem State.ok_overrun : (s.ok).overrun = s.overrun := rfl
@[simp] theorem State.ok_dacReady : (s.ok).dacReady = s.stagedReady.getD s.dacReady := rfl
@[simp] theorem State.ok_rdata : (s.ok).rdata = s.stagedRdata.getD s.rdata := rfl
@[simp] theorem State.ok_senseBit : (s.ok).senseBit = s.senseBit := rfl
@[simp] theorem State.ok_fault : (s.ok).fault = if s.stateAtAccept = .fault then s.fault else FaultRec.zero := rfl
@[simp] theorem State.ok_chsel : (s.ok).chsel = s.chsel := rfl
@[simp] theorem State.ok_dacClkEn : (s.ok).dacClkEn = s.dacClkEn := rfl
@[simp] theorem State.ok_dacRst : (s.ok).dacRst = s.dacRst := rfl
@[simp] theorem State.ok_chReady : (s.ok).chReady = s.chReady := rfl
@[simp] theorem State.ok_time : (s.ok).time = s.time := rfl
@[simp] theorem State.ok_rst : (s.ok).rst = s.rst := rfl
@[simp] theorem State.ok_busData : (s.ok).busData = s.busData := rfl
@[simp] theorem State.ok_trace : (s.ok).trace = s.trace := rfl
@[simp] theorem State.ok_contention : (s.ok).contention = s.contention := rfl
@[simp] theorem State.ok_deviceDrives : (s.ok).deviceDrives = s.deviceDrives := rfl
@[simp] theorem State.ok_inputs : (s.ok).inputs = s.inputs := rfl
@[simp] theorem State.ok_draws : (s.ok).draws = s.draws := rfl
@[simp] theorem State.ok_drawCount : (s.ok).drawCount = s.drawCount := rfl

/-! ### State.fail -/

@[simp] theorem State.fail_cfg (r : FaultRec) : (s.fail r).cfg = s.cfg := rfl
@[simp] theorem State.fail_oe (r : FaultRec) : (s.fail r).oe = s.oe := rfl
@[simp] theorem State.fail_out (r : FaultRec) : (s.fail r).out = s.out := rfl
@[simp] theorem State.fail_state (r : FaultRec) : (s.fail r).state = s.state := rfl
@[simp] theorem State.fail_curCmd (r : FaultRec) : (s.fail r).curCmd = s.curCmd := rfl
@[simp] theorem State.fail_busy (r : FaultRec) : (s.fail r).busy = false := rfl
@[simp] theorem State.fail_todo (r : FaultRec) : (s.fail r).todo = [] := rfl
@[simp] theorem State.fail_waitCnt (r : FaultRec) : (s.fail r).waitCnt = 0 := rfl
@[simp] theorem State.fail_shift (r : FaultRec) : (s.fail r).shift = s.shift := rfl
@[simp] theorem State.fail_bitIdx (r : FaultRec) : (s.fail r).bitIdx = s.bitIdx := rfl
@[simp] theorem State.fail_stH (r : FaultRec) : (s.fail r).stH = s.stH := rfl
@[simp] theorem State.fail_stL (r : FaultRec) : (s.fail r).stL = s.stL := rfl
@[simp] theorem State.fail_stRec (r : FaultRec) : (s.fail r).stRec = s.stRec := rfl
@[simp] theorem State.fail_chIdx (r : FaultRec) : (s.fail r).chIdx = s.chIdx := rfl
@[simp] theorem State.fail_stateAtAccept (r : FaultRec) : (s.fail r).stateAtAccept = s.stateAtAccept := rfl
@[simp] theorem State.fail_stagedRdata (r : FaultRec) : (s.fail r).stagedRdata = none := rfl
@[simp] theorem State.fail_stagedReady (r : FaultRec) : (s.fail r).stagedReady = none := rfl
@[simp] theorem State.fail_err (r : FaultRec) : (s.fail r).err = true := rfl
@[simp] theorem State.fail_overrun (r : FaultRec) : (s.fail r).overrun = s.overrun := rfl
@[simp] theorem State.fail_dacReady (r : FaultRec) : (s.fail r).dacReady = s.stagedReady.getD s.dacReady := rfl
@[simp] theorem State.fail_rdata (r : FaultRec) : (s.fail r).rdata = s.stagedRdata.getD s.rdata := rfl
@[simp] theorem State.fail_senseBit (r : FaultRec) : (s.fail r).senseBit = s.senseBit := rfl
@[simp] theorem State.fail_fault (r : FaultRec) : (s.fail r).fault = if s.stateAtAccept = .fault then s.fault else r := rfl
@[simp] theorem State.fail_chsel (r : FaultRec) : (s.fail r).chsel = s.chsel := rfl
@[simp] theorem State.fail_dacClkEn (r : FaultRec) : (s.fail r).dacClkEn = s.dacClkEn := rfl
@[simp] theorem State.fail_dacRst (r : FaultRec) : (s.fail r).dacRst = s.dacRst := rfl
@[simp] theorem State.fail_chReady (r : FaultRec) : (s.fail r).chReady = s.chReady := rfl
@[simp] theorem State.fail_time (r : FaultRec) : (s.fail r).time = s.time := rfl
@[simp] theorem State.fail_rst (r : FaultRec) : (s.fail r).rst = s.rst := rfl
@[simp] theorem State.fail_busData (r : FaultRec) : (s.fail r).busData = s.busData := rfl
@[simp] theorem State.fail_trace (r : FaultRec) : (s.fail r).trace = s.trace := rfl
@[simp] theorem State.fail_contention (r : FaultRec) : (s.fail r).contention = s.contention := rfl
@[simp] theorem State.fail_deviceDrives (r : FaultRec) : (s.fail r).deviceDrives = s.deviceDrives := rfl
@[simp] theorem State.fail_inputs (r : FaultRec) : (s.fail r).inputs = s.inputs := rfl
@[simp] theorem State.fail_draws (r : FaultRec) : (s.fail r).draws = s.draws := rfl
@[simp] theorem State.fail_drawCount (r : FaultRec) : (s.fail r).drawCount = s.drawCount := rfl

/-! ### State.atRest -/

@[simp] theorem State.atRest_cfg (st : TState) : (s.atRest st).cfg = s.cfg := rfl
@[simp] theorem State.atRest_oe (st : TState) : (s.atRest st).oe = s.oe := rfl
@[simp] theorem State.atRest_out (st : TState) : (s.atRest st).out = s.out := rfl
@[simp] theorem State.atRest_state (st : TState) : (s.atRest st).state = s.state := rfl
@[simp] theorem State.atRest_curCmd (st : TState) : (s.atRest st).curCmd = s.curCmd := rfl
@[simp] theorem State.atRest_busy (st : TState) : (s.atRest st).busy = false := rfl
@[simp] theorem State.atRest_todo (st : TState) : (s.atRest st).todo = [] := rfl
@[simp] theorem State.atRest_waitCnt (st : TState) : (s.atRest st).waitCnt = 0 := rfl
@[simp] theorem State.atRest_shift (st : TState) : (s.atRest st).shift = s.shift := rfl
@[simp] theorem State.atRest_bitIdx (st : TState) : (s.atRest st).bitIdx = s.bitIdx := rfl
@[simp] theorem State.atRest_stH (st : TState) : (s.atRest st).stH = s.stH := rfl
@[simp] theorem State.atRest_stL (st : TState) : (s.atRest st).stL = s.stL := rfl
@[simp] theorem State.atRest_stRec (st : TState) : (s.atRest st).stRec = s.stRec := rfl
@[simp] theorem State.atRest_chIdx (st : TState) : (s.atRest st).chIdx = s.chIdx := rfl
@[simp] theorem State.atRest_stateAtAccept (st : TState) : (s.atRest st).stateAtAccept = st := rfl
@[simp] theorem State.atRest_stagedRdata (st : TState) : (s.atRest st).stagedRdata = none := rfl
@[simp] theorem State.atRest_stagedReady (st : TState) : (s.atRest st).stagedReady = none := rfl
@[simp] theorem State.atRest_err (st : TState) : (s.atRest st).err = s.err := rfl
@[simp] theorem State.atRest_overrun (st : TState) : (s.atRest st).overrun = s.overrun := rfl
@[simp] theorem State.atRest_dacReady (st : TState) : (s.atRest st).dacReady = s.dacReady := rfl
@[simp] theorem State.atRest_rdata (st : TState) : (s.atRest st).rdata = s.rdata := rfl
@[simp] theorem State.atRest_senseBit (st : TState) : (s.atRest st).senseBit = s.senseBit := rfl
@[simp] theorem State.atRest_fault (st : TState) : (s.atRest st).fault = s.fault := rfl
@[simp] theorem State.atRest_chsel (st : TState) : (s.atRest st).chsel = s.chsel := rfl
@[simp] theorem State.atRest_dacClkEn (st : TState) : (s.atRest st).dacClkEn = s.dacClkEn := rfl
@[simp] theorem State.atRest_dacRst (st : TState) : (s.atRest st).dacRst = s.dacRst := rfl
@[simp] theorem State.atRest_chReady (st : TState) : (s.atRest st).chReady = s.chReady := rfl
@[simp] theorem State.atRest_time (st : TState) : (s.atRest st).time = s.time := rfl
@[simp] theorem State.atRest_rst (st : TState) : (s.atRest st).rst = s.rst := rfl
@[simp] theorem State.atRest_busData (st : TState) : (s.atRest st).busData = s.busData := rfl
@[simp] theorem State.atRest_trace (st : TState) : (s.atRest st).trace = s.trace := rfl
@[simp] theorem State.atRest_contention (st : TState) : (s.atRest st).contention = s.contention := rfl
@[simp] theorem State.atRest_deviceDrives (st : TState) : (s.atRest st).deviceDrives = s.deviceDrives := rfl
@[simp] theorem State.atRest_inputs (st : TState) : (s.atRest st).inputs = s.inputs := rfl
@[simp] theorem State.atRest_draws (st : TState) : (s.atRest st).draws = s.draws := rfl
@[simp] theorem State.atRest_drawCount (st : TState) : (s.atRest st).drawCount = s.drawCount := rfl

/-! ### State.setOe and State.noteContention -/

@[simp] theorem State.noteContention_cfg : s.noteContention.cfg = s.cfg := by
  unfold State.noteContention; split <;> rfl
@[simp] theorem State.noteContention_oe : s.noteContention.oe = s.oe := by
  unfold State.noteContention; split <;> rfl
@[simp] theorem State.noteContention_out : s.noteContention.out = s.out := by
  unfold State.noteContention; split <;> rfl
@[simp] theorem State.noteContention_state : s.noteContention.state = s.state := by
  unfold State.noteContention; split <;> rfl
@[simp] theorem State.noteContention_curCmd : s.noteContention.curCmd = s.curCmd := by
  unfold State.noteContention; split <;> rfl
@[simp] theorem State.noteContention_busy : s.noteContention.busy = s.busy := by
  unfold State.noteContention; split <;> rfl
@[simp] theorem State.noteContention_todo : s.noteContention.todo = s.todo := by
  unfold State.noteContention; split <;> rfl
@[simp] theorem State.noteContention_waitCnt : s.noteContention.waitCnt = s.waitCnt := by
  unfold State.noteContention; split <;> rfl
@[simp] theorem State.noteContention_shift : s.noteContention.shift = s.shift := by
  unfold State.noteContention; split <;> rfl
@[simp] theorem State.noteContention_bitIdx : s.noteContention.bitIdx = s.bitIdx := by
  unfold State.noteContention; split <;> rfl
@[simp] theorem State.noteContention_stH : s.noteContention.stH = s.stH := by
  unfold State.noteContention; split <;> rfl
@[simp] theorem State.noteContention_stL : s.noteContention.stL = s.stL := by
  unfold State.noteContention; split <;> rfl
@[simp] theorem State.noteContention_stRec : s.noteContention.stRec = s.stRec := by
  unfold State.noteContention; split <;> rfl
@[simp] theorem State.noteContention_chIdx : s.noteContention.chIdx = s.chIdx := by
  unfold State.noteContention; split <;> rfl
@[simp] theorem State.noteContention_stateAtAccept : s.noteContention.stateAtAccept = s.stateAtAccept := by
  unfold State.noteContention; split <;> rfl
@[simp] theorem State.noteContention_stagedRdata : s.noteContention.stagedRdata = s.stagedRdata := by
  unfold State.noteContention; split <;> rfl
@[simp] theorem State.noteContention_stagedReady : s.noteContention.stagedReady = s.stagedReady := by
  unfold State.noteContention; split <;> rfl
@[simp] theorem State.noteContention_err : s.noteContention.err = s.err := by
  unfold State.noteContention; split <;> rfl
@[simp] theorem State.noteContention_overrun : s.noteContention.overrun = s.overrun := by
  unfold State.noteContention; split <;> rfl
@[simp] theorem State.noteContention_dacReady : s.noteContention.dacReady = s.dacReady := by
  unfold State.noteContention; split <;> rfl
@[simp] theorem State.noteContention_rdata : s.noteContention.rdata = s.rdata := by
  unfold State.noteContention; split <;> rfl
@[simp] theorem State.noteContention_senseBit : s.noteContention.senseBit = s.senseBit := by
  unfold State.noteContention; split <;> rfl
@[simp] theorem State.noteContention_fault : s.noteContention.fault = s.fault := by
  unfold State.noteContention; split <;> rfl
@[simp] theorem State.noteContention_chsel : s.noteContention.chsel = s.chsel := by
  unfold State.noteContention; split <;> rfl
@[simp] theorem State.noteContention_dacClkEn : s.noteContention.dacClkEn = s.dacClkEn := by
  unfold State.noteContention; split <;> rfl
@[simp] theorem State.noteContention_dacRst : s.noteContention.dacRst = s.dacRst := by
  unfold State.noteContention; split <;> rfl
@[simp] theorem State.noteContention_chReady : s.noteContention.chReady = s.chReady := by
  unfold State.noteContention; split <;> rfl
@[simp] theorem State.noteContention_time : s.noteContention.time = s.time := by
  unfold State.noteContention; split <;> rfl
@[simp] theorem State.noteContention_rst : s.noteContention.rst = s.rst := by
  unfold State.noteContention; split <;> rfl
@[simp] theorem State.noteContention_busData : s.noteContention.busData = s.busData := by
  unfold State.noteContention; split <;> rfl
@[simp] theorem State.noteContention_trace : s.noteContention.trace = s.trace := by
  unfold State.noteContention; split <;> rfl
@[simp] theorem State.noteContention_contention : s.noteContention.contention =
    if s.oe.data = true ∧ s.deviceDrives = true then s.time :: s.contention else s.contention := by
  unfold State.noteContention; split <;> rfl
@[simp] theorem State.noteContention_deviceDrives : s.noteContention.deviceDrives = s.deviceDrives := by
  unfold State.noteContention; split <;> rfl
@[simp] theorem State.noteContention_inputs : s.noteContention.inputs = s.inputs := by
  unfold State.noteContention; split <;> rfl
@[simp] theorem State.noteContention_draws : s.noteContention.draws = s.draws := by
  unfold State.noteContention; split <;> rfl
@[simp] theorem State.noteContention_drawCount : s.noteContention.drawCount = s.drawCount := by
  unfold State.noteContention; split <;> rfl
@[simp] theorem State.setOe_cfg (sig : Signal) (v : Bool) : (s.setOe sig v).cfg = s.cfg := by
  cases sig <;> simp [State.setOe]
@[simp] theorem State.setOe_oe (sig : Signal) (v : Bool) : (s.setOe sig v).oe = s.oe.set sig v := by
  cases sig <;> simp [State.setOe]
@[simp] theorem State.setOe_out (sig : Signal) (v : Bool) : (s.setOe sig v).out = s.out := by
  cases sig <;> simp [State.setOe]
@[simp] theorem State.setOe_state (sig : Signal) (v : Bool) : (s.setOe sig v).state = s.state := by
  cases sig <;> simp [State.setOe]
@[simp] theorem State.setOe_curCmd (sig : Signal) (v : Bool) : (s.setOe sig v).curCmd = s.curCmd := by
  cases sig <;> simp [State.setOe]
@[simp] theorem State.setOe_busy (sig : Signal) (v : Bool) : (s.setOe sig v).busy = s.busy := by
  cases sig <;> simp [State.setOe]
@[simp] theorem State.setOe_todo (sig : Signal) (v : Bool) : (s.setOe sig v).todo = s.todo := by
  cases sig <;> simp [State.setOe]
@[simp] theorem State.setOe_waitCnt (sig : Signal) (v : Bool) : (s.setOe sig v).waitCnt = s.waitCnt := by
  cases sig <;> simp [State.setOe]
@[simp] theorem State.setOe_shift (sig : Signal) (v : Bool) : (s.setOe sig v).shift = s.shift := by
  cases sig <;> simp [State.setOe]
@[simp] theorem State.setOe_bitIdx (sig : Signal) (v : Bool) : (s.setOe sig v).bitIdx = s.bitIdx := by
  cases sig <;> simp [State.setOe]
@[simp] theorem State.setOe_stH (sig : Signal) (v : Bool) : (s.setOe sig v).stH = s.stH := by
  cases sig <;> simp [State.setOe]
@[simp] theorem State.setOe_stL (sig : Signal) (v : Bool) : (s.setOe sig v).stL = s.stL := by
  cases sig <;> simp [State.setOe]
@[simp] theorem State.setOe_stRec (sig : Signal) (v : Bool) : (s.setOe sig v).stRec = s.stRec := by
  cases sig <;> simp [State.setOe]
@[simp] theorem State.setOe_chIdx (sig : Signal) (v : Bool) : (s.setOe sig v).chIdx = s.chIdx := by
  cases sig <;> simp [State.setOe]
@[simp] theorem State.setOe_stateAtAccept (sig : Signal) (v : Bool) : (s.setOe sig v).stateAtAccept = s.stateAtAccept := by
  cases sig <;> simp [State.setOe]
@[simp] theorem State.setOe_stagedRdata (sig : Signal) (v : Bool) : (s.setOe sig v).stagedRdata = s.stagedRdata := by
  cases sig <;> simp [State.setOe]
@[simp] theorem State.setOe_stagedReady (sig : Signal) (v : Bool) : (s.setOe sig v).stagedReady = s.stagedReady := by
  cases sig <;> simp [State.setOe]
@[simp] theorem State.setOe_err (sig : Signal) (v : Bool) : (s.setOe sig v).err = s.err := by
  cases sig <;> simp [State.setOe]
@[simp] theorem State.setOe_overrun (sig : Signal) (v : Bool) : (s.setOe sig v).overrun = s.overrun := by
  cases sig <;> simp [State.setOe]
@[simp] theorem State.setOe_dacReady (sig : Signal) (v : Bool) : (s.setOe sig v).dacReady = s.dacReady := by
  cases sig <;> simp [State.setOe]
@[simp] theorem State.setOe_rdata (sig : Signal) (v : Bool) : (s.setOe sig v).rdata = s.rdata := by
  cases sig <;> simp [State.setOe]
@[simp] theorem State.setOe_senseBit (sig : Signal) (v : Bool) : (s.setOe sig v).senseBit = s.senseBit := by
  cases sig <;> simp [State.setOe]
@[simp] theorem State.setOe_fault (sig : Signal) (v : Bool) : (s.setOe sig v).fault = s.fault := by
  cases sig <;> simp [State.setOe]
@[simp] theorem State.setOe_chsel (sig : Signal) (v : Bool) : (s.setOe sig v).chsel = s.chsel := by
  cases sig <;> simp [State.setOe]
@[simp] theorem State.setOe_dacClkEn (sig : Signal) (v : Bool) : (s.setOe sig v).dacClkEn = s.dacClkEn := by
  cases sig <;> simp [State.setOe]
@[simp] theorem State.setOe_dacRst (sig : Signal) (v : Bool) : (s.setOe sig v).dacRst = s.dacRst := by
  cases sig <;> simp [State.setOe]
@[simp] theorem State.setOe_chReady (sig : Signal) (v : Bool) : (s.setOe sig v).chReady = s.chReady := by
  cases sig <;> simp [State.setOe]
@[simp] theorem State.setOe_time (sig : Signal) (v : Bool) : (s.setOe sig v).time = s.time := by
  cases sig <;> simp [State.setOe]
@[simp] theorem State.setOe_rst (sig : Signal) (v : Bool) : (s.setOe sig v).rst = s.rst := by
  cases sig <;> simp [State.setOe]
@[simp] theorem State.setOe_busData (sig : Signal) (v : Bool) : (s.setOe sig v).busData = s.busData := by
  cases sig <;> simp [State.setOe]
@[simp] theorem State.setOe_trace (sig : Signal) (v : Bool) : (s.setOe sig v).trace = ⟨s.time, .oe sig v⟩ :: s.trace := by
  cases sig <;> simp [State.setOe]
@[simp] theorem State.setOe_contention (sig : Signal) (v : Bool) : (s.setOe sig v).contention =
    if sig = .data ∧ v = true ∧ s.deviceDrives = true then s.time :: s.contention else s.contention := by
  cases sig <;> cases v <;> simp [State.setOe, Levels.set]
@[simp] theorem State.setOe_deviceDrives (sig : Signal) (v : Bool) : (s.setOe sig v).deviceDrives = s.deviceDrives := by
  cases sig <;> simp [State.setOe]
@[simp] theorem State.setOe_inputs (sig : Signal) (v : Bool) : (s.setOe sig v).inputs = s.inputs := by
  cases sig <;> simp [State.setOe]
@[simp] theorem State.setOe_draws (sig : Signal) (v : Bool) : (s.setOe sig v).draws = s.draws := by
  cases sig <;> simp [State.setOe]
@[simp] theorem State.setOe_drawCount (sig : Signal) (v : Bool) : (s.setOe sig v).drawCount = s.drawCount := by
  cases sig <;> simp [State.setOe]

end Sys2Proof.Machine
end

