-- ==== Sys2Proof/Laws/Ops.lean ====
section
/-! SUPPORT. What each shared operation can do: the fields a statement never touches, how `run` ends, how ticks pass through
a wait, and how the atomic reading composes. -/

namespace Sys2Proof.Machine

/-! ### Sampling -/

theorem pinsAt_zero (s : State) : s.pinsAt 0 = s.pins := by
  unfold State.pinsAt State.pins
  cases s.draws <;> simp

theorem sampled_pinsAt (s : State) (k : Nat) : s.sampled.pinsAt k = s.pinsAt (k + 1) := by
  unfold State.pinsAt State.sampled
  simp only [List.drop_tail, Nat.add_comm, Nat.add_left_comm]

/-! ### Statements -/

/-- The fields that no statement of a command touches: those that only acceptance, completion, time, a host access or the
environment changes. -/
structure Kept (s t : State) : Prop where
  cfg : t.cfg = s.cfg
  curCmd : t.curCmd = s.curCmd
  busy : t.busy = s.busy
  todo : t.todo = s.todo
  waitCnt : t.waitCnt = s.waitCnt
  stateAtAccept : t.stateAtAccept = s.stateAtAccept
  err : t.err = s.err
  overrun : t.overrun = s.overrun
  dacReady : t.dacReady = s.dacReady
  rdata : t.rdata = s.rdata
  fault : t.fault = s.fault
  time : t.time = s.time
  rst : t.rst = s.rst
  busData : t.busData = s.busData
  deviceDrives : t.deviceDrives = s.deviceDrives
  inputs : t.inputs = s.inputs

theorem Kept.refl (s : State) : Kept s s := by constructor <;> rfl

theorem Kept.trans {s t u : State} (h : Kept s t) (g : Kept t u) : Kept s u := by
  constructor
  · exact g.cfg.trans h.cfg
  · exact g.curCmd.trans h.curCmd
  · exact g.busy.trans h.busy
  · exact g.todo.trans h.todo
  · exact g.waitCnt.trans h.waitCnt
  · exact g.stateAtAccept.trans h.stateAtAccept
  · exact g.err.trans h.err
  · exact g.overrun.trans h.overrun
  · exact g.dacReady.trans h.dacReady
  · exact g.rdata.trans h.rdata
  · exact g.fault.trans h.fault
  · exact g.time.trans h.time
  · exact g.rst.trans h.rst
  · exact g.busData.trans h.busData
  · exact g.deviceDrives.trans h.deviceDrives
  · exact g.inputs.trans h.inputs

theorem setOe_kept (sig : Signal) (v : Bool) (s : State) : Kept s (s.setOe sig v) := by
  constructor <;> simp

theorem setOut_kept (sig : Signal) (v : Bool) (s : State) : Kept s (s.setOut sig v) := by
  constructor <;> simp

theorem check_state (r : Option FaultRec) (s : State) : (Flow.check r s).state = s := by
  cases r <;> rfl

theorem bitOut_kept (i : BitVec 3) (s : State) : Kept s (bitOut i s) := by
  have h : Kept s { s with bitIdx := i } := by constructor <;> rfl
  have hOut := h.trans (setOut_kept .data (s.shift.getLsbD i.toNat ^^ s.cfg.dataInvert) _)
  simp only [bitOut]
  split
  · exact hOut.trans (setOe_kept .data true _)
  · exact hOut

theorem startChecks_kept (ch : Option Channel) (s : State) : Kept s (startChecks ch s).state := by
  unfold startChecks
  split
  · exact Kept.refl s
  · rw [check_state]; constructor <;> rfl

theorem judge_kept (sig : Signal) (s : State) : Kept s (judge sig s).state := by
  unfold judge
  split
  · exact Kept.refl s
  · constructor <;> rfl

/-- A statement of a command touches none of the fields of `Kept`. -/
theorem act_kept (m : Micro) (s : State) : Kept s (act m s).state := by
  cases m with
  | setOe sig v => exact setOe_kept sig v s
  | setOut sig v => exact setOut_kept sig v s
  | bitOut i => exact bitOut_kept i s
  | startChecks ch => exact startChecks_kept ch s
  | judge sig => exact judge_kept sig s
  | postChecks ch => simp only [act, check_state]; constructor <;> rfl
  | wait n => exact Kept.refl s
  | illegal => exact Kept.refl s
  | setState t => constructor <;> rfl
  | loadShift b => constructor <;> rfl
  | clearShift => constructor <;> rfl
  | bitIn i => constructor <;> rfl
  | stageRdata => constructor <;> rfl
  | senseLine sig => constructor <;> rfl
  | sampleHigh sig => constructor <;> rfl
  | sampleLow sig => constructor <;> rfl
  | setChsel c => constructor <;> rfl
  | setChIdx c => constructor <;> rfl
  | stageReady v => constructor <;> rfl
  | setDacClkEn v => constructor <;> rfl
  | setDacRst v => constructor <;> rfl
  | setChReady c v => constructor <;> rfl
  | faultGate => simp only [act]; split <;> exact Kept.refl s
  | requireIdle ch => simp only [act]; split <;> exact Kept.refl s
  | endAllowed ch => simp only [act]; split <;> exact Kept.refl s
  | checkRev c => simp only [act]; split <;> exact Kept.refl s
  | checkRetime c => simp only [act]; split <;> exact Kept.refl s

theorem act_go_kept {m : Micro} {s t : State} (h : act m s = .go t) : Kept s t := by
  have := act_kept m s; rwa [h] at this

theorem act_stop_kept {m : Micro} {s t : State} {r : FaultRec} (h : act m s = .stop r t) : Kept s t := by
  have := act_kept m s; rwa [h] at this

/-- Only a `wait` pauses, and it changes nothing. -/
theorem act_pause {m : Micro} {s t : State} {n : Nat} (h : act m s = .pause n t) : m = .wait n ∧ t = s := by
  cases m with
  | wait k => simp only [act, Flow.pause.injEq] at h; exact ⟨by rw [h.1], h.2.symm⟩
  | startChecks ch => simp only [act, startChecks, Flow.check] at h; split at h <;> (try split at h) <;> simp at h
  | postChecks ch => simp only [act, Flow.check] at h; split at h <;> simp at h
  | judge sig => simp only [act, judge] at h; split at h <;> simp at h
  | faultGate => simp only [act] at h; split at h <;> simp at h
  | requireIdle ch => simp only [act] at h; split at h <;> simp at h
  | endAllowed ch => simp only [act] at h; split at h <;> simp at h
  | checkRev c => simp only [act] at h; split at h <;> simp at h
  | checkRetime c => simp only [act] at h; split at h <;> simp at h
  | setOe sig v => simp [act] at h
  | setOut sig v => simp [act] at h
  | setState t => simp [act] at h
  | loadShift b => simp [act] at h
  | bitOut i => simp [act] at h
  | clearShift => simp [act] at h
  | bitIn i => simp [act] at h
  | stageRdata => simp [act] at h
  | senseLine sig => simp [act] at h
  | illegal => simp [act] at h
  | sampleHigh sig => simp [act] at h
  | sampleLow sig => simp [act] at h
  | setChsel c => simp [act] at h
  | setChIdx c => simp [act] at h
  | stageReady v => simp [act] at h
  | setDacClkEn v => simp [act] at h
  | setDacRst v => simp [act] at h
  | setChReady c v => simp [act] at h

/-! ### Running -/

/-- How a run ends. -/
inductive Ending (ms : List Micro) (s t : State) : Prop where
  /-- At a wait, with the rest of the statements still to run. -/
  | paused (u : State) (n : Nat) (rest : List Micro) (kept : Kept s u) (pos : n ≠ 0)
      (suffix : .wait n :: rest <:+ ms) (result : t = { u with waitCnt := n, todo := rest })
  /-- With `ok()`, after the last statement. -/
  | done (u : State) (kept : Kept s u) (result : t = u.ok)
  /-- With `fail`. -/
  | failed (u : State) (r : FaultRec) (kept : Kept s u) (result : t = u.fail r)

theorem run_ending (ms : List Micro) (s : State) : Ending ms s (run ms s) := by
  induction ms generalizing s with
  | nil => exact .done s (Kept.refl s) rfl
  | cons m ms ih =>
    simp only [run]
    split
    case h_1 t h =>
      have hk := act_go_kept h
      cases ih t with
      | paused u n rest kept pos suffix result =>
        exact .paused u n rest (hk.trans kept) pos (suffix.trans (List.suffix_cons m ms)) result
      | done u kept result => exact .done u (hk.trans kept) result
      | failed u r kept result => exact .failed u r (hk.trans kept) result
    case h_2 n t h =>
      obtain ⟨rfl, rfl⟩ := act_pause h
      split
      · cases ih t with
        | paused u n rest kept pos suffix result =>
          exact .paused u n rest kept pos (suffix.trans (List.suffix_cons _ ms)) result
        | done u kept result => exact .done u kept result
        | failed u r kept result => exact .failed u r kept result
      · rename_i hn
        exact .paused t n ms (Kept.refl t) hn (List.suffix_refl _) rfl
    case h_3 r t h => exact .failed t r (act_stop_kept h) rfl

/-- What a run never changes. -/
theorem run_keeps (ms : List Micro) (s : State) :
    (run ms s).cfg = s.cfg ∧ (run ms s).curCmd = s.curCmd ∧ (run ms s).overrun = s.overrun ∧
      (run ms s).time = s.time ∧ (run ms s).rst = s.rst ∧ (run ms s).busData = s.busData ∧
      (run ms s).deviceDrives = s.deviceDrives ∧ (run ms s).inputs = s.inputs ∧
      (run ms s).stateAtAccept = s.stateAtAccept := by
  cases run_ending ms s with
  | paused u n rest k _ _ result =>
    rw [result]
    exact ⟨k.cfg, k.curCmd, k.overrun, k.time, k.rst, k.busData, k.deviceDrives, k.inputs, k.stateAtAccept⟩
  | done u k result =>
    rw [result]
    exact ⟨k.cfg, k.curCmd, k.overrun, k.time, k.rst, k.busData, k.deviceDrives, k.inputs, k.stateAtAccept⟩
  | failed u r k result =>
    rw [result]
    exact ⟨k.cfg, k.curCmd, k.overrun, k.time, k.rst, k.busData, k.deviceDrives, k.inputs, k.stateAtAccept⟩

@[simp] theorem run_nil (s : State) : run [] s = s.ok := rfl

theorem run_go {m : Micro} {s t : State} (h : act m s = .go t) (ms : List Micro) : run (m :: ms) s = run ms t := by
  simp only [run, h]

theorem run_stop {m : Micro} {s t : State} {r : FaultRec} (h : act m s = .stop r t) (ms : List Micro) :
    run (m :: ms) s = t.fail r := by
  simp only [run, h]

theorem run_wait (n : Nat) (hn : n ≠ 0) (ms : List Micro) (s : State) :
    run (.wait n :: ms) s = { s with waitCnt := n, todo := ms } := by
  simp only [run, act, if_neg hn]

theorem run_wait_zero (ms : List Micro) (s : State) : run (.wait 0 :: ms) s = run ms s := by
  simp only [run, act, if_true]

/-! ### Ticks -/

theorem ticks_add (m n : Nat) (s : State) : ticks (m + n) s = ticks n (ticks m s) := by
  induction m generalizing s with
  | zero => simp [ticks]
  | succ m ih => rw [Nat.succ_add]; exact ih (tick s)

theorem tick_idle (s : State) (hr : s.rst = false) (hb : s.busy = false) :
    tick s = { s with time := s.time + 1 } := by
  simp [tick, hr, hb]

theorem tick_waits (s : State) (hr : s.rst = false) (hb : s.busy = true) (hw : 1 < s.waitCnt) :
    tick s = { s with time := s.time + 1, waitCnt := s.waitCnt - 1 } := by
  simp [tick, hr, hb, Nat.not_le.mpr hw]

theorem tick_resumes (s : State) (hr : s.rst = false) (hb : s.busy = true) (hw : s.waitCnt = 1) :
    tick s = run s.todo { s with time := s.time + 1, waitCnt := 0, todo := [] } := by
  simp [tick, hr, hb, hw]

/-! ### The channels of the bring-up -/

@[simp] theorem channelsBelow_zero : channelsBelow 0 = [] := rfl

theorem channelsBelow_succ (n : Nat) : channelsBelow (n + 1) = channelsBelow n ++ [BitVec.ofNat 3 n] := by
  simp [channelsBelow, List.range_succ]

/-- With `N_CH` = 8 these are R200's channels 0 to 7. -/
theorem channelsBelow_eight : channelsBelow 8 = [0#3, 1#3, 2#3, 3#3, 4#3, 5#3, 6#3, 7#3] := by decide

@[simp] theorem framesEvents_zero (cfg : Params) (t : Nat) (enable : Bool) (c : Channel) :
    framesEvents cfg t enable c 0 = [] := rfl

theorem framesEvents_succ (cfg : Params) (t : Nat) (enable : Bool) (c : Channel) (f : Nat) :
    framesEvents cfg t enable c (f + 1) =
      framesEvents cfg t enable c f ++ frameEvents cfg (t + frameStart cfg f) enable c f := by
  simp [framesEvents, List.range_succ]

/-- Once channel `c` has its four frames and its strobe, the bring-up stands at the begin of the next channel. -/
theorem bringUpEvents_succ (cfg : Params) (t : Nat) (enable : Bool) (c : Nat) :
    bringUpEvents cfg t enable (c + 1) 0 =
      bringUpEvents cfg t enable c 0 ++
        channelEvents cfg (t + channelStart cfg c) (enable || decide (0 < c)) (BitVec.ofNat 3 c) := by
  simp [bringUpEvents, List.range_succ]

theorem dataEnables_append (a b : List Event) : dataEnables (a ++ b) = dataEnables b ++ dataEnables a := by
  simp [dataEnables]

/-! ### The atomic reading -/

theorem atomic_append (a b : List Micro) (s : State) :
    atomic (a ++ b) s =
      match atomic a s with
      | .go t => atomic b t
      | .pause _ t => .pause 0 t
      | .stop r t => .stop r t := by
  induction a generalizing s with
  | nil => simp [atomic]
  | cons m a ih =>
    simp only [List.cons_append, atomic]
    cases act m s with
    | go t => exact ih t
    | pause n t => exact ih _
    | stop r t => rfl

theorem atomic_never_pauses (ms : List Micro) (s : State) (n : Nat) (t : State) : atomic ms s ≠ .pause n t := by
  induction ms generalizing s with
  | nil => simp [atomic]
  | cons m ms ih =>
    simp only [atomic]
    cases act m s with
    | go t => exact ih t
    | pause n t => exact ih _
    | stop r t => simp

theorem duration_append (a b : List Micro) (s : State) :
    duration (a ++ b) s =
      duration a s +
        match atomic a s with
        | .go t => duration b t
        | .pause _ t => duration b t
        | .stop _ _ => 0 := by
  induction a generalizing s with
  | nil => simp [atomic, duration]
  | cons m a ih =>
    simp only [List.cons_append, atomic, duration]
    cases act m s with
    | go t => exact ih t
    | pause n t => simp only [ih, Nat.add_assoc]
    | stop r t => simp

end Sys2Proof.Machine
end

