-- ==== Sys2Proof/Laws/PerInstr.lean ====
section
/-! SUPPORT. Statements made for each instruction. Family LegalWord: the word of a command is a legal word (R88). -/

open Sys2Proof.Machine

namespace Sys2Proof.Laws.LegalWord

/-- The encoder gives a command a legal word, and a reserved word none. -/
def Statement (i : Instr) : Prop :=
  i.wellFormed = true → ∀ w, encode i = .cmd w → legalWord w = isCommand i

theorem of_cmdWord {op : BitVec 4} {sig : BitVec 2} {val : Bool} {ch : Channel} {reg data : Byte} {w : Word}
    (hw : Encoded.cmd (cmdWord op sig val ch reg data) = .cmd w) (hop : op.toNat ≤ 11)
    (hsig : op.toNat ≤ 3 → 1 ≤ op.toNat → sig ≠ 3#2) : legalWord w = true := by
  cases hw
  by_cases h3 : op.toNat ≤ 3 <;> by_cases h1 : 1 ≤ op.toNat <;> simp_all [legalWord]

theorem nop : Statement .nop := fun _ _ h => of_cmdWord h (by decide) (by decide)
theorem lineSetOe (sig : Signal) (val : Bool) : Statement (.lineSetOe sig val) :=
  fun _ _ h => of_cmdWord h (by simp) fun _ _ => signalBits_ne_three sig
theorem lineDrive (sig : Signal) (val : Bool) : Statement (.lineDrive sig val) :=
  fun _ _ h => of_cmdWord h (by simp) fun _ _ => signalBits_ne_three sig
theorem lineSense (sig : Signal) : Statement (.lineSense sig) :=
  fun _ _ h => of_cmdWord h (by simp) fun _ _ => signalBits_ne_three sig
theorem tInit : Statement .tInit := fun _ _ h => of_cmdWord h (by decide) (by decide)
theorem tStart : Statement .tStart := fun _ _ h => of_cmdWord h (by decide) (by decide)
theorem tEnd : Statement .tEnd := fun _ _ h => of_cmdWord h (by decide) (by decide)
theorem tWrite (instr data : Byte) : Statement (.tWrite instr data) :=
  fun _ _ h => of_cmdWord h (by decide) (by decide)
theorem tRead (instr : Byte) : Statement (.tRead instr) := fun _ _ h => of_cmdWord h (by decide) (by decide)
theorem dacWrite (ch : Channel) (reg data : Byte) : Statement (.dacWrite ch reg data) :=
  fun _ _ h => of_cmdWord h (by decide) (by decide)
theorem dacRead (ch : Channel) (reg : Byte) : Statement (.dacRead ch reg) :=
  fun _ _ h => of_cmdWord h (by decide) (by decide)
theorem dacInit : Statement .dacInit := fun _ _ h => of_cmdWord h (by decide) (by decide)

theorem of_rest {rest : BitVec 28} {op : BitVec 4} {w : Word} (hw : Encoded.cmd (rest ++ op) = .cmd w)
    (hop : 11 < op.toNat) : legalWord w = false := by
  cases hw
  have h2 : ¬op.toNat ≤ 11 := by omega
  simp [legalWord, opField_restWord, h2]

theorem reservedOpC (rest : BitVec 28) : Statement (.reservedOpC rest) := fun _ _ h => of_rest h (by decide)
theorem reservedOpD (rest : BitVec 28) : Statement (.reservedOpD rest) := fun _ _ h => of_rest h (by decide)
theorem reservedOpE (rest : BitVec 28) : Statement (.reservedOpE rest) := fun _ _ h => of_rest h (by decide)
theorem reservedOpF (rest : BitVec 28) : Statement (.reservedOpF rest) := fun _ _ h => of_rest h (by decide)
theorem reservedBits (word : Word) : Statement (.reservedBits word) := by
  intro hwf w h
  cases h
  have : word &&& reservedMask ≠ 0#32 := by simpa [Instr.wellFormed] using hwf
  simp [legalWord, this, isCommand]
theorem wireWriteInstr (addr : BitVec 5) : Statement (.wireWriteInstr addr) := fun _ _ h => nomatch h
theorem wireReadInstr (addr : BitVec 5) : Statement (.wireReadInstr addr) := fun _ _ h => nomatch h

end Sys2Proof.Laws.LegalWord
end

