-- ==== Sys2Proof/Tests/Slice0.lean ====
section
/-! SUPPORT. Tests: ill-formed terms, decodings of words written out from 30_encoding.md, single steps whose results are
those of 95_test_vectors.md, and for each statement with hypotheses a state that meets them. -/

open Sys2Proof Sys2Proof.Machine

namespace Sys2Proof.Tests

/-! ### WellFormed refuses -/

theorem test_reservedOpC_with_reserved_bit : (Instr.reservedOpC 0x0000008#28).wellFormed = false := by decide
theorem test_reservedOpD_with_reserved_bit : (Instr.reservedOpD 0x0000080#28).wellFormed = false := by decide
theorem test_reservedOpE_with_reserved_bit : (Instr.reservedOpE 0x0000800#28).wellFormed = false := by decide
theorem test_reservedOpF_with_reserved_bit : (Instr.reservedOpF 0x0000F88#28).wellFormed = false := by decide
theorem test_reservedBits_without_one : (Instr.reservedBits 0xFFFF077F#32).wellFormed = false := by decide

/-! ### Decoding: every constructor, by a word written out from R81, R82 and R92 -/

theorem test_decode_nop : decodeCmd 0b00000000_00000000_00000000_00000000#32 = .ok .nop := by decide
theorem test_decode_line_set_oe :
    decodeCmd 0b00000000_00000000_00000000_01100001#32 = .ok (.lineSetOe .data true) := by decide
theorem test_decode_line_drive :
    decodeCmd 0b00000000_00000000_00000000_01010010#32 = .ok (.lineDrive .clk true) := by decide
theorem test_decode_line_sense :
    decodeCmd 0b00000000_00000000_00000000_00010011#32 = .ok (.lineSense .clk) := by decide
theorem test_decode_t_init : decodeCmd 0b00000000_00000000_00000000_00110100#32 = .ok .tInit := by decide
theorem test_decode_t_start : decodeCmd 0b00000000_00000000_00000000_00000101#32 = .ok .tStart := by decide
theorem test_decode_t_end : decodeCmd 0b00000000_00000000_00000000_00000110#32 = .ok .tEnd := by decide
theorem test_decode_t_write :
    decodeCmd 0b10100101_00000101_00000000_00000111#32 = .ok (.tWrite 0x05#8 0xA5#8) := by decide
theorem test_decode_t_read :
    decodeCmd 0b00000000_10000101_00000000_00001000#32 = .ok (.tRead 0x85#8) := by decide
theorem test_decode_dac_write :
    decodeCmd 0b10100101_00000101_00000011_00001001#32 = .ok (.dacWrite 3#3 0x05#8 0xA5#8) := by decide
theorem test_decode_dac_read :
    decodeCmd 0b00000000_00011111_00000111_00001010#32 = .ok (.dacRead 7#3 0x1F#8) := by decide
theorem test_decode_dac_init : decodeCmd 0b00000000_00000000_00000111_00001011#32 = .ok .dacInit := by decide
theorem test_decode_reserved_op_c :
    decodeCmd 0b00000000_00000000_00000000_00001100#32 = .ok (.reservedOpC 0#28) := by decide
theorem test_decode_reserved_op_d :
    decodeCmd 0b00000000_00000000_00000001_00001101#32 = .ok (.reservedOpD 0x10#28) := by decide
theorem test_decode_reserved_op_e :
    decodeCmd 0b00000000_00000001_00000000_00001110#32 = .ok (.reservedOpE 0x1000#28) := by decide
theorem test_decode_reserved_op_f :
    decodeCmd 0b10000000_00000000_00000000_00001111#32 = .ok (.reservedOpF 0x8000000#28) := by decide
theorem test_decode_reserved_bit_before_op : decodeCmd 0x0000008B#32 = .ok (.reservedBits 0x0000008B#32) := by decide
theorem test_decode_reserved_bit_15 : decodeCmd 0x00008000#32 = .ok (.reservedBits 0x00008000#32) := by decide
theorem test_decode_signal_three : decodeCmd 0x00000031#32 = .error .signalThree := by decide
theorem test_decode_wire_write : decodeWire 0b000_11111#8 = .ok (.wireWriteInstr 0x1F#5) := by decide
theorem test_decode_wire_read : decodeWire 0b100_00101#8 = .ok (.wireReadInstr 0x05#5) := by decide
theorem test_decode_wire_other : decodeWire 0b010_00000#8 = .error .wireBits := by decide

/-- V-ENC-1. -/
theorem test_encoders_corner_values :
    writeInstruction 0xFF#8 = 0x1F#8 ∧ writeInstruction 0x20#8 = 0x00#8 ∧ readInstruction 0x60#8 = 0x80#8 ∧
      readInstruction 0x5A#8 = 0x9A#8 := by decide

/-! ### States -/

/-- Small parameters: T_HALF 2, T_TURN 3, and the example addresses of 95_test_vectors.md. -/
def cfgT : Params :=
  ⟨1, 2, 3, true, 8, 1, 0, 1, 0x0A#8, 0x80#8, 0x01#8, 0x02#8, 0x03#8, 0x04#8, 0x01#8, 64⟩

/-- A sampling instant that `start` and `end` accept. -/
def quiet : Levels := ⟨true, false, false⟩

/-- Just after reset. -/
def calm : State := { State.reset with cfg := cfgT }

/-- The idle configuration, in `Idle`, with the draws `ds` to come. -/
def atIdle (ds : List Levels) : State :=
  { calm with state := .idle, oe := idleOe, out := idleOut, draws := ds }

/-- State `Fault` after a stuck clock (V-INIT-3). -/
def inFault : State :=
  { calm with state := .fault, stRec := ⟨.lineStuckHigh, .clk⟩, fault := ⟨.lineStuckHigh, 1#2, 0#3, .none, 0#8⟩, err := true }

/-- A `T_START` in its wait. -/
def starting : State :=
  { atIdle [] with state := .inFrame, out := ⟨false, false, false⟩, busy := true, waitCnt := 4, stateAtAccept := .idle,
                   curCmd := 0x00000005#32 }

/-- The state after a step, `s` where it has none. -/
def after (o : Host.Outcome State Fault Refusal) (s : State) : State :=
  match o with
  | .next t => t
  | .fault _ => s
  | .refused _ => s

/-- One step of `s` on the input `i`. -/
def stepOn (i : Input) (s : State) : State := after (step { s with inputs := [i] }) s

/-- One `CMD` write. -/
def issue (w : Word) (s : State) : State := stepOn (.write 0x00 4 w) s

/-! ### Single steps, from 95_test_vectors.md -/

/-- V-LINE, row 1. -/
theorem test_line_oe_data : (issue 0x00000061#32 (atIdle [])).linesWord quiet = 0x00000117#32 := by decide
/-- V-LINE, row 3: `line.drive data, 1`, whose word is 0x62 by R81 and R97 (log entry 13). -/
theorem test_line_drive_data : (issue 0x00000062#32 (atIdle [])).linesWord quiet = 0x00000153#32 := by decide
/-- V-LINE-3. -/
theorem test_line_sense_keeps_rdata :
    (issue 0x00000003#32 { atIdle [quiet] with rdata := 0xA5#8 }).resultWord = 0x000001A5#32 := by decide
/-- V-FAULT-2. -/
theorem test_nop_acknowledges :
    (issue 0x00000000#32 { atIdle [] with err := true, fault := .precondition .csActive none }).statusWord = 0x02#32 := by
  decide
/-- V-DEC: an illegal word; `CMD` reads it back. -/
theorem test_illegal_word :
    (issue 0x00000033#32 (atIdle [])).fault.word = 0x07#32 ∧ (issue 0x00000033#32 (atIdle [])).curCmd = 0x33#32 := by decide
/-- V-FAULT-4. -/
theorem test_illegal_before_state : (issue 0x0000008B#32 calm).fault.word = 0x07#32 := by decide
/-- V-START-4. -/
theorem test_start_clk_high :
    (issue 0x00000005#32 { atIdle [quiet] with out := ⟨true, true, false⟩ }).fault.word = 0x604#32 := by decide
/-- V-START-7. -/
theorem test_start_reports_cs_first :
    (issue 0x00000005#32 { atIdle [quiet] with out := ⟨false, true, false⟩ }).fault.word = 0x404#32 := by decide
/-- V-START-9. -/
theorem test_start_after_reset : (issue 0x00000005#32 calm).statusWord = 0x08#32 := by decide
/-- R141: `cs_o` falls at the tick of acceptance. -/
theorem test_start_asserts_cs :
    (issue 0x00000005#32 (atIdle [quiet])).out = ⟨false, false, false⟩ ∧
      (issue 0x00000005#32 (atIdle [quiet])).statusWord = 0x05#32 := by decide
/-- V-INIT-1, tick 0. -/
theorem test_init_drives_cs_alone :
    (issue 0x00000004#32 calm).oe = ⟨true, false, false⟩ ∧ (issue 0x00000004#32 calm).out = ⟨true, false, false⟩ := by decide
/-- V-END-3. -/
theorem test_end_after_reset : (issue 0x00000006#32 calm).fault.word = 0x204#32 := by decide
/-- V-WRITE-5. -/
theorem test_write_in_frame :
    (issue 0xA5050007#32 { starting with busy := false, waitCnt := 0 }).statusWord = 0x0C#32 := by decide
/-- V-WRITE-1, cell 0: with DATA_INVERT = 1 a 0 bit goes out as 1. -/
theorem test_first_cell_is_inverted :
    (bitOut 7#3 { starting with shift := 0x05#8 }).out.data = true ∧
      (bitOut 7#3 { starting with shift := 0x05#8 }).oe.data = true := by decide
/-- R134: the first bit received is bit 7. -/
theorem test_first_bit_in : (bitIn 7#3 { starting with draws := [⟨false, true, true⟩] }).shift = 0x80#8 := by decide
/-- V-READ-4. -/
theorem test_failed_read_keeps_rdata :
    (issue 0x00850008#32 { atIdle [quiet] with out := ⟨true, true, false⟩, rdata := 0x77#8 }).resultWord = 0x77#32 := by
  decide
/-- V-DAC-8. -/
theorem test_dac_write_after_reset :
    (issue 0xA5050309#32 calm).fault.word = 0x2C4#32 ∧ (issue 0xA5050309#32 calm).chsel = 0#3 := by decide
/-- V-DAC-1: `chsel` before `CS` falls. -/
theorem test_dac_write_selects_first :
    (issue 0xA5050309#32 (atIdle [quiet])).trace = [⟨0, .out .cs false⟩, ⟨0, .chsel 3#3⟩] := by decide
/-- R190: `chsel` and the read's frame. -/
theorem test_dac_read_selects : (issue 0x0005030A#32 (atIdle [quiet])).auxWord = 0x03#32 := by decide
/-- V-DAC-7. -/
theorem test_dac_init_after_reset :
    (issue 0x0000000B#32 calm).auxWord = 0#32 ∧ (issue 0x0000000B#32 calm).fault.word = 0x204#32 := by decide
/-- V-DAC-3, tick 0. -/
theorem test_dac_init_starts_with_reset : (issue 0x0000000B#32 (atIdle [])).auxWord = 0x300#32 := by decide
/-- V-FAULT-3. -/
theorem test_fault_state_write :
    (issue 0xA5050007#32 inFault).statusWord = 0x0E#32 ∧ (issue 0xA5050007#32 inFault).fault.word = 0x11#32 := by decide
/-- V-FAULT-3. -/
theorem test_fault_state_nop :
    (issue 0x00000000#32 inFault).statusWord = 0x06#32 ∧ (issue 0x00000000#32 inFault).fault.word = 0x11#32 := by decide
/-- V-FAULT-1. -/
theorem test_overrun : (issue 0x00000006#32 { starting with curCmd := 0xA5050007#32 }).statusWord = 0x15#32 := by decide
/-- V-MEM-2. -/
theorem test_read_only_register : stepOn (.write 0x14 4 0x12345678#32) calm = calm := by decide
/-- P4: the read of `LINES` inside the frame. -/
theorem test_lines_read :
    (stepOn (.read 0x10 4) { starting with oe := ⟨true, true, true⟩, out := ⟨false, false, true⟩, draws := [⟨false, false, true⟩] }).busData
      = 0x447#32 := by decide
/-- V-RST-1. -/
theorem test_rst_in_a_frame : (stepOn (.rst true) starting).statusWord = 0#32 ∧ (stepOn (.rst true) starting).oe = ⟨false, false, false⟩ := by
  decide
/-- R90, R131: the first cell of a wire byte. -/
theorem test_wire_write_starts :
    (after (exec (.wireWriteInstr 0x05#5) starting) calm).trace = [⟨0, .oe .data true⟩, ⟨0, .out .data true⟩] := by decide
/-- R91, R131. -/
theorem test_wire_read_starts :
    (after (exec (.wireReadInstr 0x05#5) starting) calm).trace = [⟨0, .oe .data true⟩, ⟨0, .out .data false⟩] := by decide

/-! ### The hypotheses of the statements are met -/

theorem witness_DecodeOfEncode :
    (Instr.reservedBits 0x80#32).wellFormed = true ∧ (Instr.reservedOpF 0xFFFF077#28).wellFormed = true ∧
      (Instr.dacWrite 7#3 0xFF#8 0xFF#8).wellFormed = true := by decide

theorem witness_UnreadFields :
    (opField 0xFFFF0770#32 = opField 0#32 ∧ (opField 0xFFFF0770#32).toNat ≤ 11 ∧
      0xFFFF0770#32 &&& reservedMask = 0#32 ∧ 0#32 &&& reservedMask = 0#32) ∧
    (opField 0x00FF077B#32 = opField 0x0000000B#32 ∧ (opField 0x00FF077B#32).toNat ≤ 11) ∧
    0x00000080#32 &&& reservedMask ≠ 0#32 := by decide

theorem witness_WireEncoders : (0x05#8).extractLsb' 0 5 = (0x25#8 : Byte).extractLsb' 0 5 := by decide

theorem witness_StepRunsTheDecodedCommand :
    let s : State := { calm with inputs := [.write 0x00 4 0x00000004#32] }
    s.inputs = .write 0x00 4 0x00000004#32 :: [] ∧ s.rst = false ∧ s.busy = false ∧
      decodeCmd 0x00000004#32 = .ok .tInit := by decide

theorem witness_StepRunsThePlacedCommand : decodeTableWord 32 0x00000004 = some .tInit := by decide
theorem witness_StepRunsThePlacedWireByte :
    decodeTableWord 8 0x85 = some (.wireReadInstr 0x05#5) ∧ decodeTableWord 8 0x1F = some (.wireWriteInstr 0x1F#5) := by decide

theorem witness_AcceptedWord :
    legalWord 0x00000033#32 = false ∧ legalWord 0x0000000C#32 = false ∧ legalWord 0x00000080#32 = false ∧
      legalWord 0x0000000B#32 = true ∧ legalWord 0x00000023#32 = true := by decide

theorem witness_CommandWrite :
    let s : State := { starting with inputs := [.write 0x00 4 6#32] }
    let t : State := { calm with inputs := [.write 0x00 4 6#32] }
    (s.inputs = .write 0x00 4 6#32 :: [] ∧ s.rst = false ∧ s.busy = true) ∧
      (t.inputs = .write 0x00 4 6#32 :: [] ∧ t.rst = false ∧ t.busy = false) := by decide

theorem witness_StatusWrite :
    let s : State := { calm with inputs := [.write 0x04 4 0x10#32] }
    s.inputs = .write 0x04 4 0x10#32 :: [] ∧ s.rst = false ∧ (0x10#32).getLsbD 4 = true ∧
      (0xFFFFFFEF#32).getLsbD 4 = false := by decide

theorem witness_OtherRegisters :
    let s : State := { calm with inputs := [.write 0x1C 4 1#32] }
    let t : State := { calm with inputs := [.read 0x18 4] }
    (0x1C ∈ [0x08, 0x0C, 0x10, 0x14, 0x18, 0x1C] ∧ s.inputs = .write 0x1C 4 1#32 :: []) ∧
      (0x18 ∈ [0x18, 0x1C] ∧ t.inputs = .read 0x18 4 :: []) := by decide

theorem witness_ReadsReturn : ∀ off ∈ [0x00, 0x04, 0x08, 0x0C, 0x10, 0x14],
    ({ calm with inputs := [.read off 4] } : State).inputs = .read off 4 :: [] := by decide

theorem witness_OtherAccesses :
    (({ calm with inputs := [.read 0x05 1] } : State).inputs = .read 0x05 1 :: [] ∧ (1 ≠ 4 ∨ 0x05 % 4 ≠ 0)) ∧
      (({ calm with inputs := [.write 0x02 4 0#32] } : State).inputs = .write 0x02 4 0#32 :: [] ∧ 0x02 % 4 ≠ 0) := by decide

theorem witness_HostAddresses :
    0x1F < 32 ∧ cfgT.base + 0x1F = 0x5F ∧ 0x3F < cfgT.base ∧ cfgT.base + 32 ≤ 0x60 ∧ 0x20 % 4 = 0 ∧ 32 ≤ 0x20 := by decide

theorem witness_WaitEnds :
    (starting.rst = false ∧ starting.busy = true ∧ 1 ≤ starting.waitCnt ∧ 3 < starting.waitCnt) ∧
      ({ starting with waitCnt := 1 } : State).waitCnt = 1 := by decide

theorem witness_AssertingRst : ({ starting with inputs := [.rst true] } : State).inputs = .rst true :: [] := by decide

theorem witness_HeldReset :
    let s : State := { calm with rst := true }
    s.rst = true ∧ s.AtReset ∧ ({ s with inputs := [.tick] } : State).inputs = .tick :: [] ∧
      ({ s with inputs := [.write 0x00 4 4#32] } : State).inputs = .write 0x00 4 4#32 :: [] ∧
      ({ s with inputs := [.read 0x1C 4] } : State).inputs = .read 0x1C 4 :: [] ∧
      ({ s with inputs := [.read 0x1C 4] } : State).AtReset ∧
      ({ s with inputs := [.read 0x10 4] } : State).AtReset := by
  refine ⟨rfl, rfl, rfl, rfl, rfl, rfl, rfl⟩

theorem witness_IdleBlock :
    ({ calm with rst := true, inputs := [.rst false] } : State).inputs = .rst false :: [] ∧
      calm.rst = false ∧ calm.busy = false ∧ calm.inputs = [] := by decide

theorem cfgT_wf : cfgT.Wf := by decide

theorem calm_inv : calm.Inv := by
  constructor
  · exact cfgT_wf
  all_goals simp [calm, State.reset, FaultRec.Wf, FaultRec.zero]

theorem inFault_inv : inFault.Inv := by
  constructor
  · exact cfgT_wf
  all_goals simp [inFault, calm, State.reset, FaultRec.Wf, StRec.record, signalBits, FaultCode.isSelfTest]

theorem starting_inv : starting.Inv := by
  constructor
  · exact cfgT_wf
  case program => exact fun _ => ⟨.tStart, 4, by decide, by decide, by decide⟩
  all_goals
    simp [starting, atIdle, calm, State.reset, FaultRec.Wf, FaultRec.zero, maxWait, cfgT]

theorem witness_ResultsChange :
    starting.Inv ∧ starting.busy = true ∧ ∃ t, step starting = .next t ∧ t.busy = true :=
  ⟨starting_inv, rfl, _, rfl, rfl⟩

theorem witness_ReservedWords :
    Instr.reservedBits 0x80#32 ∈
      [Instr.reservedOpC 0#28, .reservedOpD 0#28, .reservedOpE 0#28, .reservedOpF 0#28, .reservedBits 0x80#32] := by decide

theorem witness_WireByte :
    starting.rst = false ∧ starting.busy = true ∧ 1 ≤ starting.cfg.tHalf ∧
      (Instr.wireReadInstr 5#5, (0b100#3 ++ 5#5 : Byte)) ∈
        [(Instr.wireWriteInstr 5#5, (0b000#3 ++ 5#5 : Byte)), (Instr.wireReadInstr 5#5, (0b100#3 ++ 5#5 : Byte))] := by decide

/-- Also for `T_WRITE`, `T_READ`, `DAC_WRITE` and `DAC_READ`; the second with `DATA` driven low (V-START-6). -/
theorem witness_CanStart :
    ((atIdle [quiet]).rst = false ∧ CanStart (atIdle [quiet]) ∧ 1 ≤ (atIdle [quiet]).cfg.tHalf) ∧
      CanStart { atIdle [quiet] with oe := ⟨true, true, true⟩ } := by decide

/-- The idle configuration but for `DATA`, which is driven high. -/
def dataHigh : State := { atIdle [quiet] with oe := ⟨true, true, true⟩, out := ⟨true, false, true⟩ }

/-- The state does not fit; then each of the three line preconditions is the first that does not hold. -/
theorem witness_StartReports :
    (calm.state ≠ .fault ∧ calm.state ≠ .idle) ∧ (dataHigh.state ≠ .fault ∧ dataHigh.state = .idle) ∧
      FirstLineFault (atIdle [⟨false, true, false⟩]) ((atIdle [⟨false, true, false⟩]).pinsAt 0) .csActive ∧
      FirstLineFault (atIdle [⟨true, true, false⟩]) ((atIdle [⟨true, true, false⟩]).pinsAt 0) .clkHigh ∧
      FirstLineFault dataHigh (dataHigh.pinsAt 0) .dataDrivenHigh := by
  refine ⟨by decide, by decide, .inl ⟨rfl, by decide⟩, .inr (.inl ⟨rfl, by decide, by decide⟩), .inr (.inr ?_)⟩
  exact ⟨rfl, by decide, by decide, rfl, rfl⟩

theorem witness_EndReturns :
    ((atIdle []).rst = false ∧ (atIdle []).state = .idle) ∧ (starting.rst = false ∧ starting.state = .inFrame) := by decide

theorem witness_EndNeeds : calm.state = .uninitialized := by decide

theorem witness_EndIsIdempotent :
    let s := atIdle [quiet, quiet]
    s.rst = false ∧ s.state = .idle ∧ Quiet (s.pinsAt 0) ∧ Quiet (s.pinsAt 1) := by decide

/-- The draws of a `WellWired` board in the self-test. -/
def wellWired : List Levels :=
  [⟨true, false, false⟩, ⟨false, false, false⟩, ⟨false, true, false⟩, ⟨false, false, false⟩, ⟨false, false, true⟩,
    ⟨false, false, false⟩]

theorem witness_InitPasses :
    let s : State := { calm with draws := wellWired }
    s.rst = false ∧ s.state ≠ .fault ∧
      ∀ sig : Signal, (s.pinsAt (2 * (signalBits sig).toNat)).get sig = true ∧
        (s.pinsAt (2 * (signalBits sig).toNat + 1)).get sig = false := by
  refine ⟨by decide, by decide, ?_⟩
  intro sig
  cases sig <;> decide

/-- `CS` follows no drive. -/
def csFloats : State := { calm with draws := [⟨false, false, false⟩, ⟨true, false, false⟩] }

/-- `CS` and `CLK` pass, `DATA` is stuck high. -/
def dataStuck : State :=
  { calm with draws := wellWired.take 4 ++ [⟨false, false, true⟩, ⟨false, false, true⟩] }

/-- A failure at the first signal, and at the last. -/
theorem witness_InitFails :
    (csFloats.rst = false ∧ csFloats.state ≠ .fault ∧
      classify ((csFloats.pinsAt 0).get .cs) ((csFloats.pinsAt 1).get .cs) = some .lineFloating) ∧
    (dataStuck.rst = false ∧ dataStuck.state ≠ .fault ∧
      ((dataStuck.pinsAt 0).get .cs = true ∧ (dataStuck.pinsAt 1).get .cs = false) ∧
      ((dataStuck.pinsAt 2).get .clk = true ∧ (dataStuck.pinsAt 3).get .clk = false) ∧
      classify ((dataStuck.pinsAt 4).get .data) ((dataStuck.pinsAt 5).get .data) = some .lineStuckHigh) := by
  decide

theorem witness_DacAccess :
    (calm.state ≠ .fault ∧ calm.state ≠ .idle) ∧
      ((atIdle [⟨false, false, false⟩]).state = .idle ∧
        FirstLineFault (atIdle [⟨false, false, false⟩]) ((atIdle [⟨false, false, false⟩]).pinsAt 0) .csActive) := by decide

theorem witness_DacInitNeedsIdle : calm.state = .uninitialized ∧ starting.state = .inFrame := by decide

/-- The draws of a read frame in which the device answers `b`. -/
def readDraws (b : Byte) : List Levels :=
  quiet :: (bitsDown.map fun i => ⟨false, true, b.getLsbD i.toNat⟩) ++ [quiet]

/-- The draws of one channel that passes. -/
def channelDraws : List Levels := readDraws 0x0A#8 ++ readDraws 0x80#8 ++ [quiet, quiet, quiet, quiet]

/-- The draws of `n` channels that pass. -/
def channelsDraws : Nat → List Levels
  | 0 => []
  | n + 1 => channelDraws ++ channelsDraws n

theorem witness_DacInitPasses :
    let s := atIdle (channelsDraws 8)
    s.rst = false ∧ s.state = .idle ∧ LinesReady s ∧ s.cfg.nCh = 8 ∧ ∀ c, c < 8 → ChannelPasses s c := by decide

/-- After `n` channels that pass, the next answers the revision read with `b`. -/
def revisionAt (n : Nat) (b : Byte) : State := atIdle (channelsDraws n ++ readDraws b)

/-- After `n` channels that pass, the next passes the revision check and answers the clock-mode read with `b`. -/
def clockModeAt (n : Nat) (b : Byte) : State := atIdle (channelsDraws n ++ readDraws 0x0A#8 ++ readDraws b)

/-- After `n` channels that pass and the draws `ds`, `CS` reads low. -/
def csLowAt (n : Nat) (ds : List Levels) : State := atIdle (channelsDraws n ++ ds ++ [⟨false, false, false⟩])

/-- The first channel. -/
theorem witness_DacInitWrongRevision_first :
    let s := revisionAt 0 0x0B#8
    LinesReady s ∧ Quiet (s.pinsAtStart 0 0) ∧ Quiet (s.pinsAtEnd 0 0) ∧ s.byteAt 1 ≠ s.cfg.expectedRev := by decide

/-- The last channel. -/
theorem witness_DacInitWrongRevision_last :
    let s := revisionAt 7 0x0B#8
    (∀ c, c < 7 → ChannelPasses s c) ∧ Quiet (s.pinsAtStart 7 0) ∧ Quiet (s.pinsAtEnd 7 0) ∧
      s.byteAt (24 * 7 + 1) ≠ s.cfg.expectedRev := by decide

/-- The first channel. -/
theorem witness_DacInitRetime_first :
    let s := clockModeAt 0 0x01#8
    LinesReady s ∧ FramePasses s 0 0 ∧ Quiet (s.pinsAtStart 0 1) ∧ Quiet (s.pinsAtEnd 0 1) ∧
      s.byteAt 11 &&& s.cfg.retimeMask ≠ 0#8 := by decide

/-- The last channel. -/
theorem witness_DacInitRetime_last :
    let s := clockModeAt 7 0xFF#8
    (∀ c, c < 7 → ChannelPasses s c) ∧ FramePasses s 7 0 ∧ Quiet (s.pinsAtStart 7 1) ∧ Quiet (s.pinsAtEnd 7 1) ∧
      s.byteAt (24 * 7 + 11) &&& s.cfg.retimeMask ≠ 0#8 := by decide

/-- A post-check of the very first frame, and of the very last. -/
theorem witness_DacInitFrameFault_post :
    (Quiet ((csLowAt 0 (readDraws 0x0A#8).dropLast).pinsAtStart 0 0) ∧
      ¬Quiet ((csLowAt 0 (readDraws 0x0A#8).dropLast).pinsAtEnd 0 0)) ∧
    ((∀ c, c < 7 → ChannelPasses (csLowAt 7 channelDraws.dropLast) c) ∧
      (∀ f, f < 3 → FramePasses (csLowAt 7 channelDraws.dropLast) 7 f) ∧
      Quiet ((csLowAt 7 channelDraws.dropLast).pinsAtStart 7 3) ∧
      ¬Quiet ((csLowAt 7 channelDraws.dropLast).pinsAtEnd 7 3)) := by decide

/-- `start` of the second frame, of the last channel's first, and of the very last. -/
theorem witness_DacInitFrameFault_start :
    (FramePasses (csLowAt 0 (readDraws 0x0A#8)) 0 0 ∧ ¬Quiet ((csLowAt 0 (readDraws 0x0A#8)).pinsAtStart 0 1)) ∧
    ((∀ c, c < 7 → ChannelPasses (csLowAt 7 []) c) ∧ ¬Quiet ((csLowAt 7 []).pinsAtStart 7 0)) ∧
    ((∀ f, f < 3 → FramePasses (csLowAt 7 (channelDraws.take 22)) 7 f) ∧
      ¬Quiet ((csLowAt 7 (channelDraws.take 22)).pinsAtStart 7 3)) := by decide

/-- `start` of the very first frame, on lines that are not ready. -/
theorem witness_DacInitFrameFault_first :
    dataHigh.rst = false ∧ dataHigh.state = .idle ∧ dataHigh.cfg.nCh = 8 ∧
      FirstLineFault dataHigh (dataHigh.pinsAt 0) .dataDrivenHigh :=
  ⟨rfl, rfl, rfl, witness_StartReports.2.2.2.2⟩

theorem witness_FaultState : inFault.state = .fault ∧ isTransport .dacInit = true := by decide

theorem witness_FaultStateAbsorbing :
    inFault.Inv ∧ inFault.state = .fault ∧ (∃ t, step inFault = .next t) ∧ (nextInput inFault).1 ≠ .rst true :=
  ⟨inFault_inv, rfl, ⟨_, rfl⟩, by decide⟩

theorem witness_AtomicReading : calm.rst = false ∧ ∃ w, encode .dacInit = .cmd w := ⟨rfl, _, rfl⟩

theorem witness_EveryStep : starting.Inv ∧ ∃ t, step starting = .next t := ⟨starting_inv, _, rfl⟩

theorem witness_ParametersNeverChange : ∃ t, step { starting with inputs := [.rst true] } = .next t := ⟨_, rfl⟩

theorem witness_ChipSelect :
    let s := atIdle [quiet]
    s.rst = false ∧ s.busy = false ∧ pokesLine .tStart = false ∧ (CsAsserted s → s.state = .inFrame) ∧
      ∃ t, exec .tStart s = .next t ∧ CsAsserted (ticks 0 t) :=
  ⟨by decide, by decide, by decide, by decide, _, rfl, by decide⟩

theorem atIdle_inv (ds : List Levels) (is : List Input) : ({ atIdle ds with inputs := is } : State).Inv := by
  constructor
  · exact cfgT_wf
  all_goals simp [atIdle, calm, State.reset, FaultRec.Wf, FaultRec.zero]

/-- `DAC_INIT` in the wait of its reset pulse. -/
def pulsing : State :=
  { atIdle [quiet] with busy := true, waitCnt := 1, todo := (dacInitOps cfgT).drop 6, stateAtAccept := .idle,
                        stagedReady := some false, curCmd := 0x0000000B#32, dacClkEn := true, dacRst := true }

theorem pulsing_inv : pulsing.Inv := by
  constructor
  · exact cfgT_wf
  case program => exact fun _ => ⟨.dacInit, 1, by decide, ⟨(dacInitOps cfgT).take 5, rfl⟩, by decide⟩
  all_goals
    simp [pulsing, atIdle, calm, State.reset, FaultRec.Wf, FaultRec.zero, maxWait, cfgT]

/-- A `DAC_WRITE` is accepted and moves `chsel`. -/
theorem witness_AuxOutputs_write :
    let s : State := { atIdle [quiet] with inputs := [.write 0x00 4 0xA5050309#32] }
    s.Inv ∧ (nextInput s).1 ≠ .rst true ∧ ∃ t, step s = .next t ∧ t.chsel ≠ s.chsel :=
  ⟨atIdle_inv _ _, by decide, _, rfl, by decide⟩

/-- A `DAC_INIT` is accepted and moves `dac_clk_en`. -/
theorem witness_AuxOutputs_init :
    let s : State := { atIdle [] with inputs := [.write 0x00 4 0x0000000B#32] }
    s.Inv ∧ (nextInput s).1 ≠ .rst true ∧ ∃ t, step s = .next t ∧ t.dacClkEn ≠ s.dacClkEn :=
  ⟨atIdle_inv _ _, by decide, _, rfl, by decide⟩

/-- A running `DAC_INIT` moves `dac_rst`, at the end of the pulse. -/
theorem witness_AuxOutputs_running :
    pulsing.Inv ∧ (nextInput pulsing).1 ≠ .rst true ∧ ∃ t, step pulsing = .next t ∧ t.dacRst ≠ pulsing.dacRst :=
  ⟨pulsing_inv, by decide, _, rfl, by decide⟩

theorem witness_Contention :
    ({ starting with oe := ⟨true, true, true⟩, inputs := [.device true] } : State).inputs = .device true :: [] := by decide

end Sys2Proof.Tests
end

section
/-! SUPPORT. The layer the proofs of 10_state.md stand on: what one step can do, the statements of a command word, which
statements a program may hold, and how a run that keeps a property ends. -/

namespace Sys2Proof.Machine

/-! ### The next input -/

theorem nextInput_snd (s : State) : (nextInput s).2 = { s with inputs := s.inputs.tail } := by
  unfold nextInput
  split
  case h_1 h => rw [h, List.tail_nil, ← h]
  case h_2 h => rw [h, List.tail_cons]

theorem step_eq_react (s : State) : step s = react (nextInput s).1 { s with inputs := s.inputs.tail } := by
  rw [step, nextInput_snd]

theorem step_of_inputs {s : State} {i : Input} {rest : List Input} (h : s.inputs = i :: rest) :
    step s = react i { s with inputs := rest } := by
  simp only [step, nextInput, h]

/-! ### Command words -/

/-- An instruction that a command word encodes runs its statements: a wire byte is the only other one. -/
theorem exec_eq_run {i : Instr} (hi : ∃ w, encode i = .cmd w) (s : State) :
    exec i s = .next (run (programOf s.cfg i) s.accepted) := by
  obtain ⟨w, hw⟩ := hi
  cases i
  case wireWriteInstr => exact nomatch hw
  case wireReadInstr => exact nomatch hw
  all_goals rfl

theorem withSignal_encodes {b : BitVec 2} {mk : Signal → Instr} {i : Instr}
    (hmk : ∀ sig, ∃ w, encode (mk sig) = .cmd w) (h : withSignal b mk = .ok i) : ∃ w, encode i = .cmd w := by
  unfold withSignal at h
  split at h
  · cases h; exact hmk _
  · cases h

/-- The decoder of command words gives no wire byte (R88, R92). -/
theorem decodeCmd_encodes {w : Word} {i : Instr} (h : decodeCmd w = .ok i) : ∃ w', encode i = .cmd w' := by
  unfold decodeCmd at h
  split at h
  · cases h; exact ⟨_, rfl⟩
  · split at h
    case h_2 | h_3 | h_4 => exact withSignal_encodes (fun _ => ⟨_, rfl⟩) h
    all_goals cases h; exact ⟨_, rfl⟩

/-- The statements an accepted command word runs (R38, R80). -/
def wordOps (cfg : Params) (w : Word) : List Micro :=
  match decodeCmd w with
  | .ok i => programOf cfg i
  | .error _ => illegalOps

theorem wordOps_ok {w : Word} {i : Instr} (h : decodeCmd w = .ok i) (cfg : Params) : wordOps cfg w = programOf cfg i := by
  simp only [wordOps, h]

theorem wordOps_error {w : Word} {e : Reject} (h : decodeCmd w = .error e) (cfg : Params) :
    wordOps cfg w = illegalOps := by
  simp only [wordOps, h]

/-- An accepted word is kept, and its statements run up to their first wait. -/
theorem acceptCommand_eq_run (w : Word) (s : State) :
    acceptCommand w s = .next (run (wordOps s.cfg w) ({ s with curCmd := w } : State).accepted) := by
  unfold acceptCommand
  cases h : decodeCmd w with
  | ok i => rw [wordOps_ok h]; exact exec_eq_run (decodeCmd_encodes h) _
  | error e => rw [wordOps_error h]; rfl

/-! ### What one input can do -/

/-- The block's next states, input by input (R23, R38, R39, R42, R44, R48, R260). -/
inductive Reaction (s : State) : Input → State → Prop where
  | tick : Reaction s .tick (tick s)
  | rst (level : Bool) : Reaction s (.rst level) (setRst level s)
  | read (off width : Nat) : Reaction s (.read off width) (busRead off s)
  | device (drives : Bool) : Reaction s (.device drives) (setDevice drives s)
  | ignored (off width : Nat) (v : Word) : Reaction s (.write off width v) s
  | overrun (off width : Nat) (v : Word) (b : Bool) (hr : s.rst = false) :
      Reaction s (.write off width v) { s with overrun := b }
  | accepted (w : Word) (hr : s.rst = false) (hb : s.busy = false) :
      Reaction s (.write 0x00 4 w) (run (wordOps s.cfg w) ({ s with curCmd := w } : State).accepted)

theorem accessRefusal_none_width {off width : Nat} (h : accessRefusal off width = none) : width = 4 := by
  unfold accessRefusal at h
  split at h
  · cases h
  · rename_i hw; push Not at hw; exact hw.1

theorem busWrite_cases {off : Nat} {v : Word} {s t : State} (h : busWrite off v s = .next t) :
    Reaction s (.write off 4 v) t := by
  unfold busWrite at h
  split at h
  · cases h; exact .ignored off 4 v
  · rename_i hr
    have hr : s.rst = false := by simpa using hr
    split at h
    · unfold writeCmd at h
      split at h
      · cases h; exact .overrun _ 4 v true hr
      · rename_i hb
        rw [acceptCommand_eq_run] at h
        cases h; exact .accepted v hr (by simpa using hb)
    · unfold writeStatus at h
      split at h <;> cases h
      · exact .overrun _ 4 v false hr
      · exact .ignored _ 4 v
    · cases h; exact .ignored off 4 v

theorem react_cases {i : Input} {s t : State} (h : react i s = .next t) : Reaction s i t := by
  unfold react at h
  split at h
  · cases h; exact .tick
  · cases h; exact .rst _
  · split at h <;> cases h
    exact .read _ _
  · split at h
    · cases h
    · rename_i ha
      obtain rfl := accessRefusal_none_width ha
      exact busWrite_cases h
  · cases h; exact .device _

/-- What a step can do: it takes the next input, and answers it. -/
theorem step_cases {s t : State} (h : step s = .next t) :
    Reaction { s with inputs := s.inputs.tail } (nextInput s).1 t :=
  react_cases (step_eq_react s ▸ h)

/-- What a tick can do (R23, R260): nothing under `rst`, let time pass, count a wait down, or end it. -/
inductive TickTo (s : State) : State → Prop where
  | held (hr : s.rst = true) : TickTo s s
  | idle (hr : s.rst = false) (hb : s.busy = false) : TickTo s { s with time := s.time + 1 }
  | waits (hr : s.rst = false) (hb : s.busy = true) (hw : 1 < s.waitCnt) :
      TickTo s { s with time := s.time + 1, waitCnt := s.waitCnt - 1 }
  | resumes (hr : s.rst = false) (hb : s.busy = true) :
      TickTo s (run s.todo { s with time := s.time + 1, waitCnt := 0, todo := [] })

theorem tick_held (s : State) (hr : s.rst = true) : tick s = s := by
  simp [tick, hr]

theorem tick_cases (s : State) (hw : s.busy = true → 1 ≤ s.waitCnt) : TickTo s (tick s) := by
  by_cases hr : s.rst = true
  · rw [tick_held s hr]; exact .held hr
  have hr : s.rst = false := by simpa using hr
  by_cases hb : s.busy = true
  · obtain h1 | h1 := (hw hb).lt_or_eq
    · rw [tick_waits s hr hb h1]; exact .waits hr hb h1
    · rw [tick_resumes s hr hb h1.symm]; exact .resumes hr hb
  · have hb : s.busy = false := by simpa using hb
    rw [tick_idle s hr hb]; exact .idle hr hb

/-! ### Which statements a program holds -/

/-- The statements of the transport and the line driver: they move no auxiliary output, wait no longer than the longest
wait (R36), and never set `state` to `Fault`, which only the verdict of a self-test does (R150). -/
def Micro.OfTransport (cfg : Params) : Micro → Prop
  | .wait n => n ≤ maxWait cfg
  | .setState t => t ≠ .fault
  | .setChsel _ => False
  | .setDacClkEn _ => False
  | .setDacRst _ => False
  | .setChReady _ _ => False
  | _ => True

/-- Every statement of a command: as `OfTransport`, with the statements that move an auxiliary output. -/
def Micro.OfCommand (cfg : Params) : Micro → Prop
  | .wait n => n ≤ maxWait cfg
  | .setState t => t ≠ .fault
  | _ => True

theorem Micro.OfTransport.ofCommand {cfg : Params} {m : Micro} (h : m.OfTransport cfg) : m.OfCommand cfg := by
  cases m
  case wait => exact h
  case setState => exact h
  all_goals trivial

theorem tHalf_le_maxWait (cfg : Params) : cfg.tHalf ≤ maxWait cfg := by unfold maxWait; omega
theorem two_tHalf_le_maxWait (cfg : Params) : 2 * cfg.tHalf ≤ maxWait cfg := by unfold maxWait; omega
theorem tTurn_le_maxWait (cfg : Params) : cfg.tTurn ≤ maxWait cfg := by unfold maxWait; omega
theorem tRst_le_maxWait (cfg : Params) : cfg.tRst ≤ maxWait cfg := by unfold maxWait; omega
theorem tRstRec_le_maxWait (cfg : Params) : cfg.tRstRec ≤ maxWait cfg := by unfold maxWait; omega
theorem tStrobe_le_maxWait (cfg : Params) : cfg.tStrobe ≤ maxWait cfg := by unfold maxWait; omega

section
variable (cfg : Params)

theorem startOps_ofTransport (ch : Option Channel) : ∀ m ∈ startOps cfg ch, m.OfTransport cfg := by
  simp [startOps, Micro.OfTransport, two_tHalf_le_maxWait]

theorem endOps_ofTransport (ch : Option Channel) : ∀ m ∈ endOps cfg ch, m.OfTransport cfg := by
  simp [endOps, Micro.OfTransport, tHalf_le_maxWait]

theorem sendByte_ofTransport (b : Byte) : ∀ m ∈ sendByte cfg b, m.OfTransport cfg := by
  simp [sendByte, bitsDown, bitOutCell, Micro.OfTransport, tHalf_le_maxWait]

theorem recvByte_ofTransport : ∀ m ∈ recvByte cfg, m.OfTransport cfg := by
  simp [recvByte, bitsDown, bitInCell, Micro.OfTransport, tHalf_le_maxWait]

theorem writeFrame_ofTransport (ch : Option Channel) (instr data : Byte) :
    ∀ m ∈ writeFrame cfg ch instr data, m.OfTransport cfg := by
  simp only [writeFrame, List.forall_mem_append]
  exact ⟨⟨⟨startOps_ofTransport cfg ch, sendByte_ofTransport cfg instr⟩, sendByte_ofTransport cfg data⟩,
    endOps_ofTransport cfg ch⟩

theorem readFrame_ofTransport (ch : Option Channel) (instr : Byte) :
    ∀ m ∈ readFrame cfg ch instr, m.OfTransport cfg := by
  simp only [readFrame, List.forall_mem_append]
  refine ⟨⟨⟨⟨⟨startOps_ofTransport cfg ch, sendByte_ofTransport cfg instr⟩, ?_⟩, recvByte_ofTransport cfg⟩, ?_⟩,
    endOps_ofTransport cfg ch⟩
  · simp [Micro.OfTransport, tTurn_le_maxWait]
  · simp [Micro.OfTransport]

theorem tInitOps_ofTransport : ∀ m ∈ tInitOps cfg, m.OfTransport cfg := by
  simp [tInitOps, gated, testSignal, Micro.OfTransport, tHalf_le_maxWait]

theorem gated_ofTransport {ms : List Micro} (h : ∀ m ∈ ms, m.OfTransport cfg) : ∀ m ∈ gated ms, m.OfTransport cfg :=
  List.forall_mem_cons.2 ⟨trivial, h⟩

/-- Only a DAC command holds statements that are not of the transport. -/
theorem programOf_ofTransport {i : Instr} (hi : isDac i = false) : ∀ m ∈ programOf cfg i, m.OfTransport cfg := by
  cases i
  case dacWrite => cases hi
  case dacRead => cases hi
  case dacInit => cases hi
  case tInit => exact tInitOps_ofTransport cfg
  case tStart => exact gated_ofTransport cfg (startOps_ofTransport cfg none)
  case tEnd => exact gated_ofTransport cfg (endOps_ofTransport cfg none)
  case tWrite instr data => exact gated_ofTransport cfg (writeFrame_ofTransport cfg none instr data)
  case tRead instr => exact gated_ofTransport cfg (readFrame_ofTransport cfg none instr)
  all_goals simp [programOf, nopOps, lineSetOeOps, lineDriveOps, lineSenseOps, illegalOps, Micro.OfTransport]

theorem deviceWrite_ofCommand (c : Channel) (reg val : Byte) : ∀ m ∈ deviceWrite cfg c reg val, m.OfCommand cfg := by
  rw [deviceWrite, List.forall_mem_append]
  exact ⟨by simp [Micro.OfCommand], fun m hm => (writeFrame_ofTransport cfg _ _ _ m hm).ofCommand⟩

theorem deviceRead_ofCommand (c : Channel) (reg : Byte) : ∀ m ∈ deviceRead cfg c reg, m.OfCommand cfg := by
  rw [deviceRead, List.forall_mem_append]
  exact ⟨by simp [Micro.OfCommand], fun m hm => (readFrame_ofTransport cfg _ _ m hm).ofCommand⟩

theorem bringUp_ofCommand (c : Channel) : ∀ m ∈ bringUp cfg c, m.OfCommand cfg := by
  simp only [bringUp, List.forall_mem_append]
  refine ⟨⟨⟨⟨⟨⟨⟨?_, deviceRead_ofCommand cfg c _⟩, ?_⟩, deviceRead_ofCommand cfg c _⟩, ?_⟩,
    deviceWrite_ofCommand cfg c _ _⟩, deviceWrite_ofCommand cfg c _ _⟩, ?_⟩
  all_goals simp [Micro.OfCommand, tStrobe_le_maxWait]

theorem dacInitOps_ofCommand : ∀ m ∈ dacInitOps cfg, m.OfCommand cfg := by
  simp only [dacInitOps, gated, List.forall_mem_cons, List.forall_mem_append]
  refine ⟨trivial, ⟨?_, fun m hm => ?_⟩, ?_⟩
  · simp [Micro.OfCommand, tRst_le_maxWait, tRstRec_le_maxWait]
  · obtain ⟨c, -, hc⟩ := List.mem_flatMap.1 hm
    exact bringUp_ofCommand cfg c m hc
  · simp [Micro.OfCommand]

theorem programOf_ofCommand (i : Instr) : ∀ m ∈ programOf cfg i, m.OfCommand cfg := by
  cases hi : isDac i with
  | false => exact fun m hm => (programOf_ofTransport cfg hi m hm).ofCommand
  | true =>
    cases i
    case dacWrite c reg data => exact List.forall_mem_cons.2 ⟨trivial, deviceWrite_ofCommand cfg c reg data⟩
    case dacRead c reg => exact List.forall_mem_cons.2 ⟨trivial, deviceRead_ofCommand cfg c reg⟩
    case dacInit => exact dacInitOps_ofCommand cfg
    all_goals cases hi

theorem wordOps_ofCommand (w : Word) : ∀ m ∈ wordOps cfg w, m.OfCommand cfg := by
  unfold wordOps
  split
  · exact programOf_ofCommand cfg _
  · simp [illegalOps, Micro.OfCommand]

end

/-! ### Runs that keep a property -/

/-- How a run of `ms` from `s` ends where every statement keeps `P`, and a failing one leaves `Q`. -/
inductive EndsWith (P : State → Prop) (Q : FaultRec → State → Prop) (ms : List Micro) (s t : State) : Prop where
  | paused (u : State) (n : Nat) (rest : List Micro) (hP : P u) (kept : Kept s u) (pos : n ≠ 0)
      (suffix : .wait n :: rest <:+ ms) (result : t = { u with waitCnt := n, todo := rest })
  | done (u : State) (hP : P u) (kept : Kept s u) (result : t = u.ok)
  | failed (u : State) (r : FaultRec) (hQ : Q r u) (kept : Kept s u) (result : t = u.fail r)

theorem EndsWith.after {P : State → Prop} {Q : FaultRec → State → Prop} {m : Micro} {ms : List Micro} {s s' t : State}
    (hk : Kept s s') (h : EndsWith P Q ms s' t) : EndsWith P Q (m :: ms) s t := by
  cases h with
  | paused u n rest hP kept pos suffix result =>
    exact .paused u n rest hP (hk.trans kept) pos (suffix.trans (List.suffix_cons m ms)) result
  | done u hP kept result => exact .done u hP (hk.trans kept) result
  | failed u r hQ kept result => exact .failed u r hQ (hk.trans kept) result

theorem run_endsWith {P : State → Prop} {Q : FaultRec → State → Prop} {ms : List Micro} {s : State}
    (hgo : ∀ m ∈ ms, ∀ u v, P u → act m u = .go v → P v)
    (hstop : ∀ m ∈ ms, ∀ u r v, P u → act m u = .stop r v → Q r v) (hs : P s) : EndsWith P Q ms s (run ms s) := by
  induction ms generalizing s with
  | nil => exact .done s hs (Kept.refl s) rfl
  | cons m ms ih =>
    obtain ⟨hgo_m, hgo_ms⟩ := List.forall_mem_cons.1 hgo
    obtain ⟨hstop_m, hstop_ms⟩ := List.forall_mem_cons.1 hstop
    cases h : act m s with
    | go t => rw [run_go h]; exact (ih hgo_ms hstop_ms (hgo_m s t hs h)).after (act_go_kept h)
    | stop r t => rw [run_stop h]; exact .failed t r (hstop_m s r t hs h) (act_stop_kept h) rfl
    | pause n t =>
      obtain ⟨rfl, rfl⟩ := act_pause h
      by_cases hn : n = 0
      · subst hn
        rw [run_wait_zero]
        exact (ih hgo_ms hstop_ms hs).after (Kept.refl _)
      · rw [run_wait n hn]
        exact .paused _ n ms hs (Kept.refl _) hn (List.suffix_refl _) rfl

/-! ### `state` and `FAULT` while a command runs -/

theorem bitOut_state (i : BitVec 3) (s : State) : (bitOut i s).state = s.state := by
  simp only [bitOut]; split <;> simp

theorem check_go {r : Option FaultRec} {s t : State} (h : Flow.check r s = .go t) : t = s := by
  cases r <;> cases h; rfl

theorem startChecks_go {ch : Option Channel} {s t : State} (h : startChecks ch s = .go t) : t = s.sampled := by
  unfold startChecks at h
  split at h
  · cases h
  · exact check_go h

theorem judge_go {sig : Signal} {s t : State} (h : judge sig s = .go t) : t = s := by
  unfold judge at h
  split at h <;> cases h
  rfl

/-- A statement after which the command goes on leaves `state`, unless it is the assignment to it. -/
theorem act_go_state {m : Micro} {s t : State} (h : act m s = .go t) : t.state = s.state ∨ m = .setState t.state := by
  cases m
  case setState => cases h; exact .inr rfl
  case bitOut i => cases h; exact .inl (bitOut_state i s)
  case setOe => cases h; exact .inl (s.setOe_state _ _)
  case startChecks => rw [startChecks_go h]; exact .inl rfl
  case postChecks => rw [check_go h]; exact .inl rfl
  case judge => rw [judge_go h]; exact .inl rfl
  case wait | illegal => cases h
  case faultGate | requireIdle | endAllowed | checkRev | checkRetime =>
    simp only [act] at h
    split at h <;> cases h
    exact .inl rfl
  all_goals cases h; exact .inl rfl

/-- No statement that the command goes on after leads into state `Fault`. -/
theorem act_go_state_ne_fault {cfg : Params} {m : Micro} (hm : m.OfCommand cfg) {s t : State} (hs : s.state ≠ .fault)
    (h : act m s = .go t) : t.state ≠ .fault := by
  obtain h' | rfl := act_go_state h
  · exact h'.symm ▸ hs
  · exact hm

/-- What a failing command leaves to `FAULT`: a well-formed record of a fault, and in state `Fault` the self-test's. -/
structure Reports (r : FaultRec) (t : State) : Prop where
  wf : r.Wf
  code : r.code ≠ .none
  selfTest : t.state = .fault → r = t.stRec.record ∧ t.stRec.code.isSelfTest

theorem reports_precondition {r : Reason} (hr : r ≠ .none) (ch : Option Channel) {t : State} (ht : t.state ≠ .fault) :
    Reports (.precondition r ch) t :=
  ⟨⟨rfl, hr, rfl⟩, nofun, fun h => absurd h ht⟩

theorem startReason_ne_none {s : State} {p : Levels} {r : Reason} (h : startReason s p = some r) : r ≠ .none := by
  unfold startReason at h
  split_ifs at h <;> cases h <;> nofun

theorem postReason_ne_none {s : State} {p : Levels} {r : Reason} (h : postReason s p = some r) : r ≠ .none := by
  unfold postReason at h
  split_ifs at h <;> cases h <;> nofun

theorem check_stop {o : Option Reason} {ch : Option Channel} {s t : State} {r : FaultRec}
    (ho : ∀ q, o = some q → q ≠ .none) (hs : s.state ≠ .fault)
    (h : Flow.check (o.map fun q => .precondition q ch) s = .stop r t) : Reports r t := by
  cases o with
  | none => cases h
  | some q => cases h; exact reports_precondition (ho q rfl) ch hs

theorem startChecks_stop {ch : Option Channel} {s t : State} {r : FaultRec} (hs : s.state ≠ .fault)
    (h : startChecks ch s = .stop r t) : Reports r t := by
  unfold startChecks at h
  split at h
  · cases h; exact reports_precondition (r := .state) nofun ch hs
  · exact check_stop (s := s.sampled) (fun _ => startReason_ne_none) hs h

theorem classify_isSelfTest {high low : Bool} {code : FaultCode} (h : classify high low = some code) :
    code.isSelfTest := by
  unfold classify at h
  split at h <;> cases h <;> decide

/-- The record of a failed self-test is well-formed (R41, R151). -/
theorem stRec_record_wf {r : StRec} (h : r.code.isSelfTest) : r.record.Wf ∧ r.record.code ≠ .none := by
  obtain ⟨code, sig⟩ := r
  have hsig := signalBits_ne_three sig
  rcases h with h | h | h <;> cases h <;> exact ⟨⟨hsig, rfl, rfl, rfl⟩, nofun⟩

theorem judge_stop {sig : Signal} {s t : State} {r : FaultRec} (h : judge sig s = .stop r t) : Reports r t := by
  unfold judge at h
  split at h
  · cases h
  · rename_i code hc
    have hst := classify_isSelfTest hc
    cases h
    obtain ⟨hwf, hcode⟩ := stRec_record_wf (r := ⟨code, sig⟩) hst
    exact ⟨hwf, hcode, fun _ => ⟨rfl, hst⟩⟩

theorem act_stop_reports {m : Micro} {s t : State} {r : FaultRec} (hs : s.state ≠ .fault) (h : act m s = .stop r t) :
    Reports r t := by
  cases m
  case illegal => cases h; exact ⟨rfl, nofun, fun h => absurd h hs⟩
  case faultGate => rw [act, if_neg hs] at h; cases h
  case requireIdle ch | endAllowed ch =>
    simp only [act] at h
    split at h <;> cases h
    exact reports_precondition (r := .state) nofun ch hs
  case startChecks => exact startChecks_stop hs h
  case postChecks => exact check_stop (s := s.sampled) (fun _ => postReason_ne_none) hs h
  case judge => exact judge_stop h
  case checkRev | checkRetime =>
    simp only [act] at h
    split at h <;> cases h
    exact ⟨⟨rfl, rfl⟩, nofun, fun h => absurd h hs⟩
  all_goals cases h

end Sys2Proof.Machine
end

section
/-! SUPPORT. The invariant of the block: reset meets it, and every input keeps it (R35, R225, R226, R229, R260). -/

namespace Sys2Proof.Machine

/-! ### Inputs that leave the block's own state -/

/-- A read changes what the environment sees, and nothing else (R66). -/
theorem busRead_eq (off : Nat) (s : State) :
    ∃ ds n w, busRead off s = { s with draws := ds, drawCount := n, busData := w } := by
  unfold busRead
  split <;> exact ⟨_, _, _, rfl⟩

/-- The block cannot observe the device's drive (R48). -/
theorem setDevice_eq (drives : Bool) (s : State) :
    ∃ c, setDevice drives s = { s with deviceDrives := drives, contention := c } := by
  unfold setDevice State.noteContention
  split <;> exact ⟨_, rfl⟩

/-- The invariant says nothing about the environment, the host bus and the model's records. -/
theorem State.Inv.environment {s : State} (h : s.Inv) (ins : List Input) (ds : List Levels) (n : Nat) (w : Word)
    (drives : Bool) (c : List Nat) :
    ({ s with
      inputs := ins, draws := ds, drawCount := n, busData := w, deviceDrives := drives, contention := c } : State).Inv where
  params := h.params
  idle := h.idle
  waiting := h.waiting
  program := h.program
  running := h.running
  frozen := h.frozen
  record := h.record
  errShows := h.errShows
  errClear := h.errClear
  underReset hr := congrArg
    (fun u : State => { u with
      inputs := ins, draws := ds, drawCount := n, busData := w, deviceDrives := drives, contention := c })
    (h.underReset hr)

/-- Outside reset it says nothing about the time and `OVERRUN` either. -/
theorem State.Inv.live {s : State} (h : s.Inv) (hr : s.rst = false) (time : Nat) (b : Bool) :
    ({ s with time := time, overrun := b } : State).Inv where
  params := h.params
  idle := h.idle
  waiting := h.waiting
  program := h.program
  running := h.running
  frozen := h.frozen
  record := h.record
  errShows := h.errShows
  errClear := h.errClear
  underReset hr' := absurd (hr.symm.trans hr') nofun

/-! ### Reset -/

/-- Everything at its reset value meets the invariant, whatever the parameters are (R46, R277). -/
theorem State.AtReset.inv {s : State} (h : s.AtReset) (hcfg : s.cfg.Wf) : s.Inv := by
  rw [h]
  constructor
  case params => exact hcfg
  case underReset => exact fun _ => rfl
  case record => exact rfl
  all_goals simp [State.reset]

theorem assertRst_atReset (s : State) : (assertRst s).AtReset := rfl

theorem addr_le_31 (a : BitVec 5) : (0#3 ++ a : Byte).toNat ≤ 31 := by
  have := a.isLt
  simp only [BitVec.toNat_append, BitVec.toNat_ofNat]
  simp
  omega

/-- The defaults of R8 meet R277, whatever the OPEN parameters are. -/
theorem Params.default_wf : Params.default.Wf := by
  have hmask : BitVec.ofNat 8 (Config.openRetime.val + 1) ≠ 0#8 := by
    have := Config.openRetime.isLt
    intro h
    have := congrArg BitVec.toNat h
    simp only [BitVec.toNat_ofNat] at this
    omega
  exact ⟨by decide, by decide, by decide, by decide, by decide, by decide, by decide, hmask, addr_le_31 _, addr_le_31 _,
    addr_le_31 _, addr_le_31 _, Nat.mul_mod_right _ _⟩

/-- Settles O55. -/
theorem resetMeetsTheInvariant : Obligations.ResetMeetsTheInvariant :=
  State.AtReset.inv (s := State.reset) rfl Params.default_wf

theorem setRst_inv (level : Bool) {s : State} (h : s.Inv) : (setRst level s).Inv := by
  unfold setRst
  split
  · exact (assertRst_atReset s).inv h.params
  · exact { h with underReset := nofun }

/-! ### A command in state `Fault` (R229) -/

/-- `t` is idle, and has `state`, `FAULT`, the self-test's record and the auxiliary outputs of `s`. -/
structure FaultHeld (s t : State) : Prop where
  idle : t.busy = false ∧ t.todo = [] ∧ t.waitCnt = 0 ∧ t.stagedRdata = none ∧ t.stagedReady = none
  state : t.state = s.state
  fault : t.fault = s.fault
  stRec : t.stRec = s.stRec
  chsel : t.chsel = s.chsel
  dacClkEn : t.dacClkEn = s.dacClkEn
  dacRst : t.dacRst = s.dacRst
  chReady : t.chReady = s.chReady

theorem fail_faultHeld {s : State} (hacc : s.stateAtAccept = .fault) (r : FaultRec) : FaultHeld s (s.fail r) := by
  constructor <;> simp [hacc]

theorem run_gated_in_fault {s : State} (hs : s.state = .fault) (ms : List Micro) :
    run (gated ms) s = s.fail s.stRec.record :=
  run_stop (by simp only [act, if_pos hs]) ms

theorem run_gated_faultHeld {s : State} (hs : s.state = .fault) (hacc : s.stateAtAccept = .fault) (ms : List Micro) :
    FaultHeld s (run (gated ms) s) := by
  rw [run_gated_in_fault hs]; exact fail_faultHeld hacc _

theorem run_programOf_in_fault (cfg : Params) (i : Instr) {s : State} (hs : s.state = .fault)
    (hacc : s.stateAtAccept = .fault) : FaultHeld s (run (programOf cfg i) s) := by
  cases i
  case nop | wireWriteInstr | wireReadInstr => constructor <;> simp [programOf, nopOps, hacc]
  case lineSetOe | lineDrive | lineSense =>
    constructor <;> simp [programOf, lineSetOeOps, lineDriveOps, lineSenseOps, run, act, hacc]
  case reservedOpC | reservedOpD | reservedOpE | reservedOpF | reservedBits => exact fail_faultHeld hacc _
  all_goals exact run_gated_faultHeld hs hacc _

theorem run_wordOps_in_fault (cfg : Params) (w : Word) {s : State} (hs : s.state = .fault)
    (hacc : s.stateAtAccept = .fault) : FaultHeld s (run (wordOps cfg w) s) := by
  unfold wordOps
  split
  · exact run_programOf_in_fault cfg _ hs hacc
  · exact fail_faultHeld hacc _

/-- The record of state `Fault` holds, and so does the invariant, where the sequencer is idle again. -/
theorem FaultHeld.inv {s t : State} (h : s.Inv) (hs : s.state = .fault) (ht : FaultHeld s t) (hcfg : t.cfg = s.cfg)
    (hr : t.rst = false) : t.Inv := by
  obtain ⟨hrec, hst⟩ := h.frozen hs
  have hcode : t.fault.code ≠ .none := by rw [ht.fault, hrec]; exact (stRec_record_wf hst).2
  exact
    { params := hcfg ▸ h.params
      idle := fun _ => ht.idle.2
      waiting := fun hb => absurd (ht.idle.1.symm.trans hb) nofun
      program := fun hb => absurd (ht.idle.1.symm.trans hb) nofun
      running := fun hb => absurd (ht.idle.1.symm.trans hb) nofun
      frozen := fun _ => by rw [ht.fault, ht.stRec]; exact ⟨hrec, hst⟩
      record := ht.fault ▸ h.record
      errShows := fun _ => hcode
      errClear := fun _ => .inl (ht.state.trans hs)
      underReset := fun hr' => absurd (hr.symm.trans hr') nofun }

/-! ### A command outside state `Fault` -/

/-- The block within an instant in which a command runs. -/
structure State.InCommand (s : State) : Prop where
  params : s.cfg.Wf
  busy : s.busy = true
  accepted : s.stateAtAccept ≠ .fault
  state : s.state ≠ .fault
  record : s.fault.Wf
  errShows : s.err = true → s.fault.code ≠ .none
  errClear : s.err = false → s.fault = FaultRec.zero
  rst : s.rst = false

theorem State.InCommand.kept {s u : State} (h : s.InCommand) (k : Kept s u) (hu : u.state ≠ .fault) : u.InCommand where
  params := k.cfg ▸ h.params
  busy := k.busy ▸ h.busy
  accepted := k.stateAtAccept ▸ h.accepted
  state := hu
  record := k.fault ▸ h.record
  errShows := k.err ▸ k.fault ▸ h.errShows
  errClear := k.err ▸ k.fault ▸ h.errClear
  rst := k.rst ▸ h.rst

theorem State.InCommand.inv_paused {u : State} (h : u.InCommand) {i : Instr} {n : Nat} {rest : List Micro} (pos : n ≠ 0)
    (hn : n ≤ maxWait u.cfg) (hi : decodeCmd u.curCmd = .ok i) (suffix : .wait n :: rest <:+ programOf u.cfg i) :
    ({ u with waitCnt := n, todo := rest } : State).Inv where
  params := h.params
  idle hb := absurd (h.busy.symm.trans hb) nofun
  waiting _ := ⟨Nat.one_le_iff_ne_zero.2 pos, hn⟩
  program _ := ⟨i, n, hi, suffix, le_rfl⟩
  running _ := ⟨h.accepted, h.state⟩
  frozen hs := absurd hs h.state
  record := h.record
  errShows := h.errShows
  errClear he := .inr (h.errClear he)
  underReset hr := absurd (h.rst.symm.trans hr) nofun

theorem State.InCommand.inv_ok {u : State} (h : u.InCommand) : u.ok.Inv := by
  have hf : u.ok.fault = FaultRec.zero := by rw [State.ok_fault, if_neg h.accepted]
  exact
    { params := h.params
      idle := fun _ => ⟨rfl, rfl, rfl, rfl⟩
      waiting := nofun
      program := nofun
      running := nofun
      frozen := fun hs => absurd hs h.state
      record := by rw [hf]; rfl
      errShows := nofun
      errClear := fun _ => .inr hf
      underReset := fun hr => absurd (h.rst.symm.trans hr) nofun }

theorem Reports.inv_fail {r : FaultRec} {u : State} (h : Reports r u) (hcfg : u.cfg.Wf) (hacc : u.stateAtAccept ≠ .fault)
    (hr : u.rst = false) : (u.fail r).Inv := by
  have hf : (u.fail r).fault = r := by rw [State.fail_fault, if_neg hacc]
  exact
    { params := hcfg
      idle := fun _ => ⟨rfl, rfl, rfl, rfl⟩
      waiting := nofun
      program := nofun
      running := nofun
      frozen := fun hs => by rw [hf]; exact h.selfTest hs
      record := by rw [hf]; exact h.wf
      errShows := fun _ => by rw [hf]; exact h.code
      errClear := nofun
      underReset := fun hr' => absurd (hr.symm.trans hr') nofun }

/-- Running on with the statements of the command that `cur_cmd` names leads to a state of the invariant. -/
theorem State.InCommand.run_inv {s : State} (h : s.InCommand) {ms : List Micro} (hms : ∀ m ∈ ms, m.OfCommand s.cfg)
    (hprog : ∀ n rest, .wait n :: rest <:+ ms →
      ∃ i, decodeCmd s.curCmd = .ok i ∧ .wait n :: rest <:+ programOf s.cfg i) : (run ms s).Inv := by
  have hend : EndsWith (fun u => u.state ≠ .fault) Reports ms s (run ms s) :=
    run_endsWith (fun m hm _ _ hu => act_go_state_ne_fault (hms m hm) hu) (fun _ _ _ _ _ hu => act_stop_reports hu) h.state
  cases hend with
  | paused u n rest hu k pos suffix result =>
    obtain ⟨i, hi, hsuf⟩ := hprog n rest suffix
    have hn : n ≤ maxWait s.cfg := hms _ (suffix.subset List.mem_cons_self)
    rw [result]
    exact (h.kept k hu).inv_paused pos (k.cfg ▸ hn) (k.curCmd ▸ hi) (k.cfg ▸ hsuf)
  | done u hu k result => rw [result]; exact (h.kept k hu).inv_ok
  | failed u r hu k result =>
    rw [result]
    exact hu.inv_fail (k.cfg ▸ h.params) (k.stateAtAccept ▸ h.accepted) (k.rst ▸ h.rst)

/-! ### Every input keeps it -/

theorem accept_inv {s : State} (h : s.Inv) (hr : s.rst = false) (w : Word) :
    (run (wordOps s.cfg w) ({ s with curCmd := w } : State).accepted).Inv := by
  by_cases hs : s.state = .fault
  · obtain ⟨hcfg, -, -, -, hrst, -⟩ := run_keeps (wordOps s.cfg w) ({ s with curCmd := w } : State).accepted
    have held := run_wordOps_in_fault s.cfg w (s := ({ s with curCmd := w } : State).accepted) hs hs
    exact FaultHeld.inv (s := s) h hs ⟨held.idle, held.state, held.fault, held.stRec, held.chsel, held.dacClkEn, held.dacRst,
      held.chReady⟩ hcfg (hrst.trans hr)
  · have hcmd : ({ s with curCmd := w } : State).accepted.InCommand :=
      { params := h.params
        busy := rfl
        accepted := hs
        state := hs
        record := h.record
        errShows := h.errShows
        errClear := fun he => (h.errClear he).resolve_left hs
        rst := hr }
    refine hcmd.run_inv (wordOps_ofCommand s.cfg w) fun n rest hsuf => ?_
    unfold wordOps at hsuf
    split at hsuf
    · rename_i i hi; exact ⟨i, hi, hsuf⟩
    · have hmem : Micro.wait n ∈ illegalOps := hsuf.subset List.mem_cons_self
      simp [illegalOps] at hmem

theorem TickTo.inv {s t : State} (ht : TickTo s t) (h : s.Inv) : t.Inv := by
  cases ht with
  | held => exact h
  | idle hr => exact h.live hr _ _
  | waits hr hb hw =>
    obtain ⟨hlo, hhi⟩ := h.waiting hb
    obtain ⟨i, n, hi, hsuf, hn⟩ := h.program hb
    exact { h.live hr (s.time + 1) s.overrun with
      idle := fun hb' => absurd (hb.symm.trans hb') nofun
      waiting := fun _ => ⟨Nat.le_sub_one_of_lt hw, (Nat.sub_le _ _).trans hhi⟩
      program := fun _ => ⟨i, n, hi, hsuf, (Nat.sub_le _ _).trans hn⟩
      underReset := fun hr' => absurd (hr.symm.trans hr') nofun }
  | resumes hr hb =>
    obtain ⟨i, n, hi, hsuf, -⟩ := h.program hb
    obtain ⟨hacc, hstate⟩ := h.running hb
    have htodo : s.todo <:+ programOf s.cfg i := (List.suffix_cons _ _).trans hsuf
    have hcmd : ({ s with time := s.time + 1, waitCnt := 0, todo := [] } : State).InCommand :=
      { params := h.params
        busy := hb
        accepted := hacc
        state := hstate
        record := h.record
        errShows := h.errShows
        errClear := fun he => (h.errClear he).resolve_left hstate
        rst := hr }
    exact hcmd.run_inv (fun m hm => programOf_ofCommand s.cfg i m (htodo.subset hm)) fun _ _ hs => ⟨i, hi, hs.trans htodo⟩

theorem Reaction.inv {s t : State} {i : Input} (h : Reaction s i t) (hs : s.Inv) : t.Inv := by
  cases h with
  | tick => exact (tick_cases s fun hb => (hs.waiting hb).1).inv hs
  | rst level => exact setRst_inv level hs
  | read off width =>
    obtain ⟨ds, n, w, he⟩ := busRead_eq off s
    rw [he]; exact hs.environment s.inputs ds n w s.deviceDrives s.contention
  | device drives =>
    obtain ⟨c, he⟩ := setDevice_eq drives s
    rw [he]; exact hs.environment s.inputs s.draws s.drawCount s.busData drives c
  | ignored => exact hs
  | overrun off width v b hr => exact hs.live hr s.time b
  | accepted w hr hb => exact accept_inv hs hr w

/-- Settles O56: the invariant holds again after each of the block's answers to an input. -/
theorem everyStepKeepsTheInvariant : Obligations.EveryStepKeepsTheInvariant := by
  intro s t hs h
  exact (step_cases h).inv (hs.environment s.inputs.tail s.draws s.drawCount s.busData s.deviceDrives s.contention)

end Sys2Proof.Machine
end

section
/-! SUPPORT. Waits, and the atomic reading of a command (R13, R23, R35, R36). -/

namespace Sys2Proof.Machine

/-! ### A wait -/

theorem ticks_succ (n : Nat) (s : State) : ticks (n + 1) s = tick (ticks n s) :=
  ticks_add n 1 s

/-- Before its last tick a wait only counts (R23). -/
theorem ticks_within_wait {s : State} (hr : s.rst = false) (hb : s.busy = true) {k : Nat} (hk : k < s.waitCnt) :
    ticks k s = { s with time := s.time + k, waitCnt := s.waitCnt - k } := by
  induction k with
  | zero => rfl
  | succ k ih =>
    rw [ticks_succ, ih (by omega), tick_waits]
    · simp only [Nat.add_assoc, Nat.sub_sub]
    · exact hr
    · exact hb
    · simp only; omega

/-- On its last tick the command goes on (R23). -/
theorem ticks_whole_wait {s : State} (hr : s.rst = false) (hb : s.busy = true) (hw : 1 ≤ s.waitCnt) :
    ticks s.waitCnt s = run s.todo { s with time := s.time + s.waitCnt, waitCnt := 0, todo := [] } := by
  obtain ⟨n, hn⟩ := Nat.exists_eq_add_of_le' hw
  have hlast : n < s.waitCnt := by omega
  have hone : s.waitCnt - n = 1 := by omega
  rw [hn, ticks_succ, ticks_within_wait hr hb hlast, hone, tick_resumes]
  · simp only [Nat.add_assoc]
  · exact hr
  · exact hb
  · rfl

/-- Every tick is counted (R13), whatever the block does on it. -/
theorem tick_cfg_time {s : State} (hr : s.rst = false) : (tick s).cfg = s.cfg ∧ (tick s).time = s.time + 1 := by
  unfold tick
  rw [if_neg (by simp [hr])]
  dsimp only
  split_ifs
  · obtain ⟨hcfg, -, -, htime, -⟩ := run_keeps s.todo { s with time := s.time + 1, waitCnt := 0, todo := [] }
    exact ⟨hcfg, htime⟩
  · exact ⟨rfl, rfl⟩
  · exact ⟨rfl, rfl⟩

theorem tick_micros {s : State} (hr : s.rst = false) : (tick s).micros = s.micros + s.cfg.tickUs := by
  obtain ⟨hcfg, htime⟩ := tick_cfg_time hr
  rw [State.micros, hcfg, htime, Nat.add_one_mul, State.micros]

/-- Settles O20: `ticks_within_wait` and `ticks_whole_wait`, for a wait that stands and for one that is about to begin. -/
theorem waitEndsOnItsLastTick : Obligations.WaitEndsOnItsLastTick := by
  refine ⟨fun s hr => tick_micros hr, rfl,
    fun s hr hb hw => ⟨fun k hk => ticks_within_wait hr hb hk, ticks_whole_wait hr hb hw⟩, fun s n ms hn => ?_⟩
  have hrun := run_wait n (Nat.one_le_iff_ne_zero.1 hn) ms s
  refine ⟨hrun, fun hr hb => ?_⟩
  rw [hrun]
  exact ⟨fun k hk => ticks_within_wait (s := { s with waitCnt := n, todo := ms }) hr hb hk,
    ticks_whole_wait (s := { s with waitCnt := n, todo := ms }) hr hb hn⟩

/-! ### The atomic reading -/

theorem finish_go {m : Micro} {s t : State} (h : act m s = .go t) (ms : List Micro) : finish (m :: ms) s = finish ms t := by
  simp only [finish, atomic, h]

theorem finish_stop {m : Micro} {s t : State} {r : FaultRec} (h : act m s = .stop r t) (ms : List Micro) :
    finish (m :: ms) s = t.fail r := by
  simp only [finish, atomic, h]

theorem finish_wait (n : Nat) (ms : List Micro) (s : State) :
    finish (.wait n :: ms) s = finish ms { s with time := s.time + n } := rfl

theorem duration_go {m : Micro} {s t : State} (h : act m s = .go t) (ms : List Micro) :
    duration (m :: ms) s = duration ms t := by
  simp only [duration, h]

theorem duration_stop {m : Micro} {s t : State} {r : FaultRec} (h : act m s = .stop r t) (ms : List Micro) :
    duration (m :: ms) s = 0 := by
  simp only [duration, h]

theorem duration_wait (n : Nat) (ms : List Micro) (s : State) :
    duration (.wait n :: ms) s = n + duration ms { s with time := s.time + n } := rfl

/-- The block within an instant of a command, its counter and position not in use. -/
structure State.BetweenWaits (s : State) : Prop where
  rst : s.rst = false
  busy : s.busy = true
  waitCnt : s.waitCnt = 0
  todo : s.todo = []

theorem State.BetweenWaits.kept {s t : State} (h : s.BetweenWaits) (k : Kept s t) : t.BetweenWaits :=
  ⟨k.rst.trans h.rst, k.busy.trans h.busy, k.waitCnt.trans h.waitCnt, k.todo.trans h.todo⟩

/-- A wait of `n` ticks takes the block to the same state `n` ticks later. -/
theorem State.BetweenWaits.ticks_wait {s : State} (h : s.BetweenWaits) {n : Nat} (hn : n ≠ 0) (ms : List Micro) :
    ticks n (run (.wait n :: ms) s) = run ms { s with time := s.time + n } := by
  have hsame : ({ s with time := s.time + n, waitCnt := 0, todo := [] } : State) = { s with time := s.time + n } := by
    rw [← h.waitCnt, ← h.todo]
  rw [run_wait n hn, ← hsame]
  exact ticks_whole_wait (s := { s with waitCnt := n, todo := ms }) h.rst h.busy (Nat.one_le_iff_ne_zero.2 hn)

/-- Before the sum of its waits has passed the command is busy, and then it has ended as read atomically. -/
theorem State.BetweenWaits.atomic_agrees {s : State} (h : s.BetweenWaits) (ms : List Micro) :
    (∀ k, k < duration ms s → (ticks k (run ms s)).busy = true) ∧ ticks (duration ms s) (run ms s) = finish ms s := by
  induction ms generalizing s with
  | nil => exact ⟨fun k hk => absurd hk k.not_lt_zero, rfl⟩
  | cons m ms ih =>
    cases hact : act m s with
    | go t =>
      rw [run_go hact, duration_go hact, finish_go hact]
      exact ih (h.kept (act_go_kept hact))
    | stop r t =>
      rw [run_stop hact, duration_stop hact, finish_stop hact]
      exact ⟨fun k hk => absurd hk k.not_lt_zero, rfl⟩
    | pause n t =>
      obtain ⟨rfl, rfl⟩ := act_pause hact
      obtain ⟨ihBusy, ihEnd⟩ := ih (s := { t with time := t.time + n }) ⟨h.rst, h.busy, h.waitCnt, h.todo⟩
      rw [duration_wait, finish_wait]
      by_cases hn : n = 0
      · subst hn
        rw [run_wait_zero, Nat.zero_add]
        exact ⟨ihBusy, ihEnd⟩
      have hwait := h.ticks_wait hn ms
      refine ⟨fun k hk => ?_, by rw [ticks_add, hwait, ihEnd]⟩
      by_cases hkn : k < n
      · rw [run_wait n hn, ticks_within_wait (s := { t with waitCnt := n, todo := ms }) h.rst h.busy hkn]
        exact h.busy
      · obtain ⟨j, rfl⟩ := Nat.exists_eq_add_of_le (Nat.le_of_not_lt hkn)
        rw [ticks_add, hwait]
        exact ihBusy j (by omega)

/-- Settles O54: `atomic_agrees` for the statements of the command, from its acceptance. -/
theorem atomicReadingAgrees : Obligations.AtomicReadingAgrees := by
  intro s i hr hi
  have h : s.accepted.BetweenWaits := ⟨hr, rfl, rfl, rfl⟩
  exact ⟨_, exec_eq_run hi s, h.atomic_agrees (programOf s.cfg i)⟩

end Sys2Proof.Machine
end

section
/-! SUPPORT. What moves the auxiliary outputs (R26, R32). -/

namespace Sys2Proof.Machine

/-- `t` has the auxiliary outputs of `s` but for `chsel` (R20, R26). -/
structure SameDacOutputs (s t : State) : Prop where
  dacClkEn : t.dacClkEn = s.dacClkEn
  dacRst : t.dacRst = s.dacRst
  chReady : t.chReady = s.chReady

/-- `t` has all auxiliary outputs of `s`. -/
structure SameAux (s t : State) : Prop extends SameDacOutputs s t where
  chsel : t.chsel = s.chsel

theorem SameAux.refl (s : State) : SameAux s s := ⟨⟨rfl, rfl, rfl⟩, rfl⟩

theorem SameDacOutputs.trans {s t u : State} (h : SameDacOutputs s t) (g : SameDacOutputs t u) : SameDacOutputs s u :=
  ⟨g.dacClkEn.trans h.dacClkEn, g.dacRst.trans h.dacRst, g.chReady.trans h.chReady⟩

theorem SameAux.trans {s t u : State} (h : SameAux s t) (g : SameAux t u) : SameAux s u :=
  ⟨h.toSameDacOutputs.trans g.toSameDacOutputs, g.chsel.trans h.chsel⟩

theorem setOe_sameAux (sig : Signal) (v : Bool) (s : State) : SameAux s (s.setOe sig v) := by
  constructor
  · constructor <;> simp
  · simp

theorem bitOut_sameAux (i : BitVec 3) (s : State) : SameAux s (bitOut i s) := by
  have hOut (v : Bool) : SameAux s (({ s with bitIdx := i } : State).setOut .data v) := ⟨⟨rfl, rfl, rfl⟩, rfl⟩
  simp only [bitOut]
  split
  · exact (hOut _).trans (setOe_sameAux .data true _)
  · exact hOut _

theorem startChecks_sameAux (ch : Option Channel) (s : State) : SameAux s (startChecks ch s).state := by
  unfold startChecks
  split
  · exact SameAux.refl s
  · rw [check_state]; exact ⟨⟨rfl, rfl, rfl⟩, rfl⟩

theorem judge_sameAux (sig : Signal) (s : State) : SameAux s (judge sig s).state := by
  unfold judge
  split
  · exact SameAux.refl s
  · exact ⟨⟨rfl, rfl, rfl⟩, rfl⟩

/-- A statement of the transport or the line driver moves no auxiliary output (R26). -/
theorem act_sameAux {cfg : Params} {m : Micro} (hm : m.OfTransport cfg) (s : State) : SameAux s (act m s).state := by
  cases m
  case setChsel | setDacClkEn | setDacRst | setChReady => exact hm.elim
  case setOe sig v => exact setOe_sameAux sig v s
  case bitOut i => exact bitOut_sameAux i s
  case startChecks ch => exact startChecks_sameAux ch s
  case judge sig => exact judge_sameAux sig s
  case postChecks ch => rw [act, check_state]; exact ⟨⟨rfl, rfl, rfl⟩, rfl⟩
  case faultGate | requireIdle | endAllowed | checkRev | checkRetime =>
    simp only [act]
    split <;> exact SameAux.refl s
  all_goals exact ⟨⟨rfl, rfl, rfl⟩, rfl⟩

theorem run_sameAux {cfg : Params} {ms : List Micro} (hms : ∀ m ∈ ms, m.OfTransport cfg) (s : State) :
    SameAux s (run ms s) := by
  have hend : EndsWith (SameAux s) (fun _ => SameAux s) ms s (run ms s) := by
    refine run_endsWith (fun m hm u v hu h => hu.trans ?_) (fun m hm u r v hu h => hu.trans ?_) (SameAux.refl s)
    · have := act_sameAux (hms m hm) u; rwa [h] at this
    · have := act_sameAux (hms m hm) u; rwa [h] at this
  cases hend with
  | paused u n rest hu _ _ _ result => rw [result]; exact hu.trans ⟨⟨rfl, rfl, rfl⟩, rfl⟩
  | done u hu _ result => rw [result]; exact hu.trans ⟨⟨rfl, rfl, rfl⟩, rfl⟩
  | failed u r hu _ result => rw [result]; exact hu.trans ⟨⟨rfl, rfl, rfl⟩, rfl⟩

/-! ### DAC commands -/

theorem run_gated_outside_fault {s : State} (hs : s.state ≠ .fault) (ms : List Micro) : run (gated ms) s = run ms s :=
  run_go (by rw [act, if_neg hs]) ms

theorem run_requireIdle_fails {s : State} (hs : s.state ≠ .idle) (ch : Option Channel) (ms : List Micro) :
    run (.requireIdle ch :: ms) s = s.fail (.precondition .state ch) :=
  run_stop (by rw [act, if_pos hs]) ms

theorem run_requireIdle_passes {s : State} (hs : s.state = .idle) (ch : Option Channel) (ms : List Micro) :
    run (.requireIdle ch :: ms) s = run ms s :=
  run_go (by rw [act, if_neg (not_not.2 hs)]) ms

theorem run_gated_sameAux_in_fault {s : State} (hs : s.state = .fault) (ms : List Micro) :
    SameAux s (run (gated ms) s) := by
  rw [run_gated_in_fault hs]; exact ⟨⟨rfl, rfl, rfl⟩, rfl⟩

/-- A register access to one channel: the frame of a DAC command comes after `chsel` (R180, R181). -/
def accessOps (c : Channel) (frame : List Micro) : List Micro :=
  gated (.requireIdle (some c) :: .setChsel c :: frame)

theorem run_accessOps_outside_idle {s : State} (hs : s.state ≠ .idle) (c : Channel) (frame : List Micro) :
    SameAux s (run (accessOps c frame) s) := by
  by_cases hf : s.state = .fault
  · exact run_gated_sameAux_in_fault hf _
  · rw [accessOps, run_gated_outside_fault hf, run_requireIdle_fails hs]; exact ⟨⟨rfl, rfl, rfl⟩, rfl⟩

theorem run_dacInitOps_outside_idle (cfg : Params) {s : State} (hs : s.state ≠ .idle) :
    SameAux s (run (dacInitOps cfg) s) := by
  obtain ⟨rest, hrest⟩ : ∃ rest, dacInitOps cfg = gated (.stageReady false :: .requireIdle none :: rest) := ⟨_, rfl⟩
  rw [hrest]
  by_cases hf : s.state = .fault
  · exact run_gated_sameAux_in_fault hf _
  · have hstaged : ({ s with stagedReady := some false } : State).state ≠ .idle := hs
    rw [run_gated_outside_fault hf, run_go rfl, run_requireIdle_fails hstaged]
    exact ⟨⟨rfl, rfl, rfl⟩, rfl⟩

theorem run_accessOps_sameDacOutputs {cfg : Params} {frame : List Micro} (hframe : ∀ m ∈ frame, m.OfTransport cfg)
    (c : Channel) {s : State} (hs : s.state = .idle) : SameDacOutputs s (run (accessOps c frame) s) := by
  have hsel : SameDacOutputs s (s.setChsel c) := ⟨rfl, rfl, rfl⟩
  rw [accessOps, run_gated_outside_fault (by simp [hs]), run_requireIdle_passes hs, run_go rfl]
  exact hsel.trans (run_sameAux hframe (s.setChsel c)).toSameDacOutputs

/-- What follows a wait of an access is a part of its frame. -/
theorem wait_suffix_accessOps {c : Channel} {frame rest : List Micro} {n : Nat}
    (h : .wait n :: rest <:+ accessOps c frame) : .wait n :: rest <:+ frame := by
  simpa [accessOps, gated, List.suffix_cons_iff] using h

/-- The two DAC commands that are one access. -/
theorem programOf_access (cfg : Params) {i : Instr} (hi : isDac i = true) (hne : i ≠ .dacInit) :
    ∃ c frame, programOf cfg i = accessOps c frame ∧ ∀ m ∈ frame, m.OfTransport cfg := by
  cases i
  case dacWrite c reg data => exact ⟨c, _, rfl, writeFrame_ofTransport cfg _ _ _⟩
  case dacRead c reg => exact ⟨c, _, rfl, readFrame_ofTransport cfg _ _⟩
  case dacInit => exact absurd rfl hne
  all_goals cases hi

/-- After any wait of a command but `DAC_INIT` only statements of the transport are left. -/
theorem after_wait_ofTransport {cfg : Params} {i : Instr} (hne : i ≠ .dacInit) {n : Nat} {rest : List Micro}
    (h : .wait n :: rest <:+ programOf cfg i) : ∀ m ∈ rest, m.OfTransport cfg := by
  have hrest : ∀ {ms : List Micro}, .wait n :: rest <:+ ms → ∀ m ∈ rest, m ∈ ms :=
    fun hsuf m hm => hsuf.subset (List.mem_cons_of_mem _ hm)
  cases hi : isDac i with
  | false => exact fun m hm => programOf_ofTransport cfg hi m (hrest h m hm)
  | true =>
    obtain ⟨c, frame, hprog, hframe⟩ := programOf_access cfg hi hne
    rw [hprog] at h
    exact fun m hm => hframe m (hrest (wait_suffix_accessOps h) m hm)

/-! ### What moves the outputs -/

/-- What R26 allows a step from `s` that leads to `t`: to move `chsel` where `selects` holds, and the other auxiliary
outputs where `resets` holds. -/
structure MovesAux (selects resets : Prop) (s t : State) : Prop where
  chsel : t.chsel ≠ s.chsel → selects
  dac : t.dacClkEn ≠ s.dacClkEn ∨ t.dacRst ≠ s.dacRst ∨ t.chReady ≠ s.chReady → resets

theorem SameDacOutputs.movesAux {s t : State} (h : SameDacOutputs s t) {selects : Prop} (hsel : selects) (resets : Prop) :
    MovesAux selects resets s t where
  chsel _ := hsel
  dac hne := by simp [h.dacClkEn, h.dacRst, h.chReady] at hne

theorem SameAux.movesAux {s t : State} (h : SameAux s t) (selects resets : Prop) : MovesAux selects resets s t where
  chsel hne := absurd h.chsel hne
  dac hne := by simp [h.dacClkEn, h.dacRst, h.chReady] at hne

/-- A command moves `chsel` only if it is a DAC command accepted in `Idle`, and the others only if it is `DAC_INIT`. -/
theorem run_programOf_movesAux (cfg : Params) (i : Instr) (s : State) :
    MovesAux (s.state = .idle ∧ isDac i = true) (s.state = .idle ∧ i = .dacInit) s (run (programOf cfg i) s) := by
  cases hi : isDac i with
  | false => exact (run_sameAux (programOf_ofTransport cfg hi) s).movesAux _ _
  | true =>
    by_cases hinit : i = .dacInit
    · subst hinit
      by_cases hs : s.state = .idle
      · exact ⟨fun _ => ⟨hs, rfl⟩, fun _ => ⟨hs, rfl⟩⟩
      · exact (run_dacInitOps_outside_idle cfg hs).movesAux _ _
    · obtain ⟨c, frame, hprog, hframe⟩ := programOf_access cfg hi hinit
      rw [hprog]
      by_cases hs : s.state = .idle
      · exact (run_accessOps_sameDacOutputs hframe c hs).movesAux ⟨hs, rfl⟩ _
      · exact (run_accessOps_outside_idle hs c frame).movesAux _ _

/-- A tick moves an auxiliary output only where `DAC_INIT` runs. -/
theorem TickTo.movesAux {s t : State} (h : TickTo s t) (hs : s.Inv) :
    MovesAux (Running s .dacInit) (Running s .dacInit) s t := by
  cases h with
  | held => exact (SameAux.refl s).movesAux _ _
  | idle => exact ⟨absurd rfl, by simp⟩
  | waits => exact ⟨absurd rfl, by simp⟩
  | resumes hr hb =>
    obtain ⟨i, n, hi, hsuf, -⟩ := hs.program hb
    by_cases hinit : i = .dacInit
    · exact ⟨fun _ => ⟨hb, hinit ▸ hi⟩, fun _ => ⟨hb, hinit ▸ hi⟩⟩
    · have hrun := run_sameAux (after_wait_ofTransport hinit hsuf) { s with time := s.time + 1, waitCnt := 0, todo := [] }
      have haux : SameAux s (run s.todo { s with time := s.time + 1, waitCnt := 0, todo := [] }) :=
        ⟨⟨hrun.dacClkEn, hrun.dacRst, hrun.chReady⟩, hrun.chsel⟩
      exact haux.movesAux _ _

/-- An accepted word moves an auxiliary output only where it is a DAC command and `state` is `Idle`. -/
theorem accepted_movesAux (w : Word) (s : State) :
    MovesAux (s.state = .idle ∧ ∃ i, decodeCmd w = .ok i ∧ isDac i = true) (s.state = .idle ∧ decodeCmd w = .ok .dacInit) s
      (run (wordOps s.cfg w) ({ s with curCmd := w } : State).accepted) := by
  cases hw : decodeCmd w with
  | ok i =>
    rw [wordOps_ok hw]
    obtain ⟨hsel, hdac⟩ := run_programOf_movesAux s.cfg i ({ s with curCmd := w } : State).accepted
    refine ⟨fun hne => ?_, fun hne => ?_⟩
    · obtain ⟨hs, hi⟩ := hsel hne
      exact ⟨hs, i, rfl, hi⟩
    · obtain ⟨hs, rfl⟩ := hdac hne
      exact ⟨hs, rfl⟩
  | error e =>
    rw [wordOps_error hw]
    exact ⟨absurd rfl, by simp [illegalOps, run, act]⟩

/-! ### The other inputs -/

/-- `t` has the auxiliary outputs, the state and the record of `s`. -/
structure OutputsKept (s t : State) : Prop extends SameAux s t where
  state : t.state = s.state
  fault : t.fault = s.fault

theorem OutputsKept.of_eq {s t : State} (h : t = { s with
    time := t.time, waitCnt := t.waitCnt, rst := t.rst, busData := t.busData, draws := t.draws, drawCount := t.drawCount,
    overrun := t.overrun, deviceDrives := t.deviceDrives, contention := t.contention }) : OutputsKept s t := by
  rw [h]; exact ⟨⟨⟨rfl, rfl, rfl⟩, rfl⟩, rfl, rfl⟩

/-- Of the inputs but an asserted `rst`, only a tick and an accepted word can move an output, the state or the record. -/
theorem reaction_outputsKept {s t : State} {input : Input} (h : Reaction s input t) (hrst : input ≠ .rst true) :
    OutputsKept s t ∨ (input = .tick ∧ t = tick s) ∨
      ∃ w, input = .write 0x00 4 w ∧ s.rst = false ∧ s.busy = false ∧
        t = run (wordOps s.cfg w) ({ s with curCmd := w } : State).accepted := by
  cases h with
  | tick => exact .inr (.inl ⟨rfl, rfl⟩)
  | accepted w hr hb => exact .inr (.inr ⟨w, rfl, hr, hb, rfl⟩)
  | rst level =>
    cases level with
    | true => exact absurd rfl hrst
    | false => exact .inl (.of_eq rfl)
  | read off width =>
    obtain ⟨ds, n, w, he⟩ := busRead_eq off s
    exact .inl (.of_eq (by rw [he]))
  | device drives =>
    obtain ⟨c, he⟩ := setDevice_eq drives s
    exact .inl (.of_eq (by rw [he]))
  | ignored => exact .inl (.of_eq rfl)
  | overrun => exact .inl (.of_eq rfl)

/-- Settles O59: a tick moves the outputs as `TickTo.movesAux` says, an accepted word as `accepted_movesAux` says, and every
other input keeps them. -/
theorem onlyDacCommandsMoveTheAuxOutputs : Obligations.OnlyDacCommandsMoveTheAuxOutputs := by
  intro s t hs h hrst
  suffices hm : MovesAux ((s.state = .idle ∧ ∃ i, Accepts s i ∧ isDac i = true) ∨ Running s .dacInit)
      ((s.state = .idle ∧ Accepts s .dacInit) ∨ Running s .dacInit) s t from ⟨hm.chsel, hm.dac⟩
  obtain kept | ⟨-, rfl⟩ | ⟨w, hin, hr, hb, rfl⟩ := reaction_outputsKept (step_cases h) hrst
  · have haux : SameAux s t := ⟨⟨kept.dacClkEn, kept.dacRst, kept.chReady⟩, kept.chsel⟩
    exact haux.movesAux _ _
  · have hs' := hs.environment s.inputs.tail s.draws s.drawCount s.busData s.deviceDrives s.contention
    obtain ⟨hsel, hdac⟩ := (tick_cases { s with inputs := s.inputs.tail } fun hb => (hs.waiting hb).1).movesAux hs'
    exact ⟨fun hne => .inr (hsel hne), fun hne => .inr (hdac hne)⟩
  · obtain ⟨hsel, hdac⟩ := accepted_movesAux w { s with inputs := s.inputs.tail }
    refine ⟨fun hne => .inl ?_, fun hne => .inl ?_⟩
    · obtain ⟨hidle, i, hi, hisDac⟩ := hsel hne
      exact ⟨hidle, i, ⟨hr, hb, w, hin, hi⟩, hisDac⟩
    · obtain ⟨hidle, hi⟩ := hdac hne
      exact ⟨hidle, hr, hb, w, hin, hi⟩

/-! ### State `Fault` -/

/-- No command runs in state `Fault`, so a tick moves nothing there. -/
theorem TickTo.outputsKept_in_fault {s t : State} (h : TickTo s t) (hs : s.Inv) (hf : s.state = .fault) :
    OutputsKept s t := by
  cases h with
  | held => exact .of_eq rfl
  | idle => exact .of_eq rfl
  | waits => exact .of_eq rfl
  | resumes hr hb => exact absurd hf (hs.running hb).2

/-- Settles O53: in state `Fault` a tick finds no command, and an accepted word fails or completes at once
(`run_wordOps_in_fault`). -/
theorem faultStateIsAbsorbing : Obligations.FaultStateIsAbsorbing := by
  intro s t hs hf h hrst
  suffices kept : OutputsKept { s with inputs := s.inputs.tail } t from
    ⟨kept.state.trans hf, kept.fault, kept.chsel, kept.dacClkEn, kept.dacRst, kept.chReady⟩
  obtain kept | ⟨-, rfl⟩ | ⟨w, -, -, -, rfl⟩ := reaction_outputsKept (step_cases h) hrst
  · exact kept
  · have hs' := hs.environment s.inputs.tail s.draws s.drawCount s.busData s.deviceDrives s.contention
    exact (tick_cases { s with inputs := s.inputs.tail } fun hb => (hs.waiting hb).1).outputsKept_in_fault hs' hf
  · have held := run_wordOps_in_fault s.cfg w
      (s := ({ s with inputs := s.inputs.tail, curCmd := w } : State).accepted) hf hf
    exact ⟨⟨⟨held.dacClkEn, held.dacRst, held.chReady⟩, held.chsel⟩, held.state, held.fault⟩

end Sys2Proof.Machine
end

section
/-! SUPPORT. Host accesses, reset, and the fields of the host registers (R22, R29, R38 to R48, R220, R221). -/

namespace Sys2Proof.Machine

/-! ### Host accesses -/

/-- A write of an admitted width and offset reaches the register (R60, R63). -/
theorem step_write {s : State} {off : Nat} {v : Word} {rest : List Input} (h : s.inputs = .write off 4 v :: rest)
    (hoff : accessRefusal off 4 = none) : step s = busWrite off v { s with inputs := rest } := by
  simp only [step_of_inputs h, react, hoff]

theorem step_read {s : State} {off : Nat} {rest : List Input} (h : s.inputs = .read off 4 :: rest)
    (hoff : accessRefusal off 4 = none) : step s = .next (busRead off { s with inputs := rest }) := by
  simp only [step_of_inputs h, react, hoff]

theorem busWrite_cmd {s : State} (hr : s.rst = false) (w : Word) : busWrite 0x00 w s = writeCmd w s := by
  rw [busWrite, if_neg (by simp [hr])]

theorem busWrite_status {s : State} (hr : s.rst = false) (v : Word) : busWrite 0x04 v s = .next (writeStatus v s) := by
  rw [busWrite, if_neg (by simp [hr])]

/-- Every other register ignores a write (R44). -/
theorem busWrite_other {off : Nat} (hcmd : off ≠ 0x00) (hstatus : off ≠ 0x04) (v : Word) (s : State) :
    busWrite off v s = .next s := by
  unfold busWrite
  split
  · rfl
  · split
    · exact absurd rfl hcmd
    · exact absurd rfl hstatus
    · rfl

/-- An accepted command write (R38). -/
theorem step_accepts {s : State} {w : Word} {rest : List Input} (h : s.inputs = .write 0x00 4 w :: rest)
    (hr : s.rst = false) (hb : s.busy = false) : step s = acceptCommand w { s with inputs := rest } := by
  rw [step_write h rfl, busWrite_cmd (s := { s with inputs := rest }) hr, writeCmd, if_neg (by simp [hb])]

/-- A dropped one (R38, R222). -/
theorem step_drops {s : State} {w : Word} {rest : List Input} (h : s.inputs = .write 0x00 4 w :: rest)
    (hr : s.rst = false) (hb : s.busy = true) : step s = .next { s with inputs := rest, overrun := true } := by
  rw [step_write h rfl, busWrite_cmd (s := { s with inputs := rest }) hr, writeCmd, if_pos hb]

theorem acceptCommand_ok {w : Word} {i : Instr} (h : decodeCmd w = .ok i) (s : State) :
    acceptCommand w s = exec i { s with curCmd := w } := by
  simp only [acceptCommand, h]

/-- Settles O8: the write is accepted, and its word decodes. -/
theorem stepRunsTheDecodedCommand : Obligations.StepRunsTheDecodedCommand := by
  intro s w i rest h hr hb hi
  rw [step_accepts h hr hb, acceptCommand_ok hi]

theorem decodeTableWord_cmd {w : Nat} {i : Instr} (h : decodeTableWord 32 w = some i) :
    decodeCmd (BitVec.ofNat 32 w) = .ok i := by
  rw [decodeTableWord, if_neg (by decide), if_pos (by decide)] at h
  cases hw : decodeCmd (BitVec.ofNat 32 w) <;> rw [hw] at h <;> cases h
  rfl

/-- Settles O9: the placed word is the next write, and no command runs that would drop it. -/
theorem stepRunsThePlacedCommand : Obligations.StepRunsThePlacedCommand := by
  intro s w i h
  have hplaced : s.withFetchWord 32 w = withCommand (BitVec.ofNat 32 w) s := by
    rw [State.withFetchWord, if_neg (by decide)]
  rw [hplaced]
  exact stepRunsTheDecodedCommand (withCommand (BitVec.ofNat 32 w) s) (BitVec.ofNat 32 w) i s.inputs rfl rfl rfl
    (decodeTableWord_cmd h)

/-- Settles O12: no run changes `cur_cmd`, so an accepted word stays in it. -/
theorem commandWriteIsAcceptedOrDropped : Obligations.CommandWriteIsAcceptedOrDropped := by
  refine ⟨fun s w rest h hr => ⟨step_drops h hr, fun hb => ?_⟩, fun s rest h => step_read h rfl, rfl⟩
  have hstep := step_accepts h hr hb
  refine ⟨hstep, _, hstep.trans (acceptCommand_eq_run w _), ?_⟩
  obtain ⟨-, hcur, -⟩ := run_keeps (wordOps s.cfg w) ({ s with inputs := rest, curCmd := w } : State).accepted
  exact hcur

/-- Settles O13, by `writeStatus`'s test of bit 4. -/
theorem statusWriteClearsOverrun : Obligations.StatusWriteClearsOverrun := by
  intro s v rest h hr
  rw [step_write h rfl, busWrite_status (s := { s with inputs := rest }) hr, writeStatus]
  exact ⟨fun hv => by rw [if_pos hv], fun hv => by rw [if_neg (by simp only [hv]; decide)]⟩

/-- Settles O14: the six offsets are admitted, and none is that of `CMD` or `STATUS`. -/
theorem otherRegistersIgnoreWrites : Obligations.OtherRegistersIgnoreWrites := by
  constructor
  · intro s off v rest hoff h
    have hadmitted : ∀ off ∈ [0x08, 0x0C, 0x10, 0x14, 0x18, 0x1C],
        accessRefusal off 4 = none ∧ off ≠ 0x00 ∧ off ≠ 0x04 := by decide
    obtain ⟨hacc, hcmd, hstatus⟩ := hadmitted off hoff
    rw [step_write h hacc, busWrite_other hcmd hstatus]
  · intro s off rest hoff h
    simp only [List.mem_cons, List.not_mem_nil, or_false] at hoff
    obtain rfl | rfl := hoff <;> exact step_read h rfl

/-! ### Reset and contention -/

/-- Settles O22: `assertRst` gives the reset state. -/
theorem assertingRstResetsTheBlock : Obligations.AssertingRstResetsTheBlock := by
  intro s rest h
  refine ⟨assertRst { s with inputs := rest }, ?_, assertRst_atReset _, rfl, rfl, rfl, rfl, rfl⟩
  rw [step_of_inputs h]
  rfl

/-- Settles O21: none of these values rests on an OPEN parameter. -/
theorem resetGivesTheStatedValues : Obligations.ResetGivesTheStatedValues := by
  unfold Obligations.ResetGivesTheStatedValues
  decide

/-- Settles O60, by whether the block drives `DATA`. -/
theorem contentionIsRecorded : Obligations.ContentionIsRecorded := by
  intro s rest h
  rw [step_of_inputs h]
  by_cases hoe : s.oe.data = true <;> simp [react, setDevice, State.noteContention, hoe]

/-! ### Lines, numbers and fields -/

theorem Levels.get_set (l : Levels) (sig sig' : Signal) (v : Bool) :
    (l.set sig v).get sig' = if sig' = sig then v else l.get sig' := by
  cases sig <;> cases sig' <;> rfl

/-- Settles O27, by `Levels.get_set` for both groups. -/
theorem lineWriteChangesOneBit : Obligations.LineWriteChangesOneBit := by
  intro s sig sig' v
  rw [State.setOe_oe, State.setOut_out]
  exact ⟨Levels.get_set .., State.setOe_out .., Levels.get_set .., rfl⟩

/-- Settles O19, number by number. -/
theorem codesHaveTheirNumbers : Obligations.CodesHaveTheirNumbers := by
  unfold Obligations.CodesHaveTheirNumbers
  decide

section
open BitVec

theorem statusWord_flags (s : State) :
    s.statusWord.getLsbD 0 = s.busy ∧ s.statusWord.getLsbD 3 = s.err ∧ s.statusWord.getLsbD 4 = s.overrun ∧
      s.statusWord.getLsbD 5 = s.dacReady := by
  unfold State.statusWord
  simp only [getLsbD_append]
  simp

theorem statusWord_fields (s : State) :
    s.statusWord.extractLsb' 1 2 = s.state.bits ∧ s.statusWord.extractLsb' 6 26 = 0#26 := by
  unfold State.statusWord
  simp (disch := decide) only [extractLsb'_append_eq_of_le, extractLsb'_append_eq_of_add_le]
  simp

theorem resultWord_fields (s : State) :
    s.resultWord.extractLsb' 0 8 = s.rdata ∧ s.resultWord.getLsbD 8 = s.senseBit ∧
      s.resultWord.extractLsb' 9 23 = 0#23 := by
  unfold State.resultWord
  simp (disch := decide) only [extractLsb'_append_eq_of_le, extractLsb'_append_eq_of_add_le, getLsbD_append]
  simp

theorem auxWord_fields (s : State) :
    s.auxWord.extractLsb' 0 3 = s.chsel ∧ s.auxWord.getLsbD 8 = s.dacClkEn ∧ s.auxWord.getLsbD 9 = s.dacRst ∧
      s.auxWord.extractLsb' 16 8 = s.chReady := by
  unfold State.auxWord
  simp (disch := decide) only [extractLsb'_append_eq_of_le, extractLsb'_append_eq_of_add_le, getLsbD_append]
  simp

theorem auxWord_reserved (s : State) : s.auxWord &&& 0xFF00FCF8#32 = 0#32 := by
  apply eq_of_getLsbD_eq
  intro i hi
  simp only [State.auxWord, getLsbD_and, getLsbD_append]
  interval_cases i <;> simp

theorem FaultRec.word_fields (r : FaultRec) :
    r.word.extractLsb' 0 4 = r.code.bits ∧ r.word.extractLsb' 4 2 = r.signal ∧ r.word.extractLsb' 6 3 = r.channel ∧
      r.word.extractLsb' 9 3 = r.reason.bits ∧ r.word.extractLsb' 16 8 = r.got := by
  unfold FaultRec.word
  simp (disch := decide) only [extractLsb'_append_eq_of_le, extractLsb'_append_eq_of_add_le]
  simp

theorem FaultRec.word_reserved (r : FaultRec) : r.word &&& 0xFF00F000#32 = 0#32 := by
  apply eq_of_getLsbD_eq
  intro i hi
  simp only [FaultRec.word, getLsbD_and, getLsbD_append]
  interval_cases i <;> simp

/-- The three register groups of `LINES` (R42). -/
theorem linesWord_groups (s : State) (p : Levels) :
    (s.linesWord p).extractLsb' 0 3 = s.oe.bits ∧ (s.linesWord p).extractLsb' 4 3 = s.out.bits ∧
      (s.linesWord p).extractLsb' 8 3 = p.bits := by
  unfold State.linesWord
  simp (disch := decide) only [extractLsb'_append_eq_of_le, extractLsb'_append_eq_of_add_le]
  simp

theorem linesWord_reserved (s : State) (p : Levels) : s.linesWord p &&& 0xFFFFF888#32 = 0#32 := by
  apply eq_of_getLsbD_eq
  intro i hi
  simp only [State.linesWord, getLsbD_and, getLsbD_append]
  interval_cases i <;> simp

theorem Levels.getLsbD_bits (l : Levels) (sig : Signal) : l.bits.getLsbD (signalBits sig).toNat = l.get sig := by
  obtain ⟨cs, clk, data⟩ := l
  revert cs clk data
  cases sig <;> decide

/-- The bit of a signal in a word that holds a register group from bit `k` on. -/
theorem getLsbD_of_group {w : Word} {k : Nat} {l : Levels} (h : w.extractLsb' k 3 = l.bits) (sig : Signal) :
    w.getLsbD (k + (signalBits sig).toNat) = l.get sig := by
  have hlt : (signalBits sig).toNat < 3 := by cases sig <;> decide
  rw [← Levels.getLsbD_bits, ← h, getLsbD_extractLsb', decide_eq_true hlt, Bool.true_and]

end

/-- Settles O18, register by register; a line's bits are those of its group. -/
theorem registerFieldsStandInTheirBits : Obligations.RegisterFieldsStandInTheirBits := by
  refine ⟨fun s => ?_, fun r => ?_, fun s p sig => ?_⟩
  · obtain ⟨hbusy, herr, hoverrun, hready⟩ := statusWord_flags s
    obtain ⟨hstate, hzero⟩ := statusWord_fields s
    obtain ⟨hrdata, hsense, hzero'⟩ := resultWord_fields s
    obtain ⟨hchsel, hclk, hrst, hchReady⟩ := auxWord_fields s
    exact ⟨hbusy, hstate, herr, hoverrun, hready, hzero, hrdata, hsense, hzero', hchsel, hclk, hrst, hchReady,
      auxWord_reserved s⟩
  · obtain ⟨hcode, hsignal, hchannel, hreason, hgot⟩ := r.word_fields
    exact ⟨hcode, hsignal, hchannel, hreason, hgot, r.word_reserved⟩
  · obtain ⟨hoe, hout, hpins⟩ := linesWord_groups s p
    exact ⟨by simpa using getLsbD_of_group hoe sig, getLsbD_of_group hout sig, getLsbD_of_group hpins sig,
      linesWord_reserved s p⟩

end Sys2Proof.Machine
end

section
/-! SUPPORT. Chip-select outside a frame (R34): a rule for what holds at the waits and at the end of a command, and its
uses, statement list by statement list. -/

namespace Sys2Proof.Machine

/-- Chip-select is asserted within a frame only (R34). -/
def Shielded (s : State) : Prop := CsAsserted s → s.state = .inFrame

/-- Running `ms` from `s`, chip-select is shielded at every wait (unless `test` holds) and where the command fails, and `Q`
holds after the last statement. A wait may end at any time, with any counter and position left in the sequencer. -/
def RunsShielded (test : Prop) : List Micro → (State → Prop) → State → Prop
  | [], Q, s => Q s
  | m :: ms, Q, s =>
    match act m s with
    | .go t => RunsShielded test ms Q t
    | .pause _ t => (test ∨ Shielded t) ∧ ∀ k c l, RunsShielded test ms Q { t with time := k, waitCnt := c, todo := l }
    | .stop _ t => Shielded t

/-! ### Rules -/

section
variable {test : Prop} {P Q : State → Prop}

theorem runsShielded_go {m : Micro} {ms : List Micro} {s t : State} (h : act m s = .go t) :
    RunsShielded test (m :: ms) Q s ↔ RunsShielded test ms Q t := by
  simp only [RunsShielded, h]

theorem runsShielded_stop {m : Micro} {ms : List Micro} {s t : State} {r : FaultRec} (h : act m s = .stop r t) :
    RunsShielded test (m :: ms) Q s ↔ Shielded t := by
  simp only [RunsShielded, h]

theorem runsShielded_wait {n : Nat} {ms : List Micro} {s : State} :
    RunsShielded test (.wait n :: ms) Q s ↔
      (test ∨ Shielded s) ∧ ∀ k c l, RunsShielded test ms Q { s with time := k, waitCnt := c, todo := l } := Iff.rfl

/-- Lists of statements compose. -/
theorem RunsShielded.append {a b : List Micro} {s : State} (ha : RunsShielded test a P s)
    (hb : ∀ u, P u → RunsShielded test b Q u) : RunsShielded test (a ++ b) Q s := by
  induction a generalizing s with
  | nil => exact hb s ha
  | cons m a ih =>
    cases hact : act m s with
    | go t => exact (runsShielded_go hact).2 (ih ((runsShielded_go hact).1 ha))
    | stop r t => exact (runsShielded_stop hact).2 ((runsShielded_stop hact).1 ha)
    | pause n t =>
      obtain ⟨rfl, rfl⟩ := act_pause hact
      obtain ⟨hwait, hrest⟩ := runsShielded_wait.1 ha
      exact runsShielded_wait.2 ⟨hwait, fun k c l => ih (hrest k c l)⟩

end

/-- Statements that keep chip-select shielded. -/
def KeepShield (test : Prop) (ms : List Micro) : Prop := ∀ s, Shielded s → RunsShielded test ms Shielded s

section
variable {test : Prop} {a b : List Micro}

theorem KeepShield.append (ha : KeepShield test a) (hb : KeepShield test b) : KeepShield test (a ++ b) :=
  fun s hs => (ha s hs).append hb

theorem KeepShield.flatMap {α : Type} {f : α → List Micro} (l : List α) (hf : ∀ x, KeepShield test (f x)) :
    KeepShield test (l.flatMap f) := by
  induction l with
  | nil => exact fun _ hs => hs
  | cons x l ih => rw [List.flatMap_cons]; exact (hf x).append ih

theorem keepShield_gated (h : KeepShield test a) : KeepShield test (gated a) := by
  intro s hs
  by_cases hf : s.state = .fault
  · exact (runsShielded_stop (by rw [act, if_pos hf])).2 hs
  · exact (runsShielded_go (by rw [act, if_neg hf])).2 (h s hs)

end

/-! ### Statements that leave chip-select -/

/-- The statements that assign neither chip-select nor `state`. -/
def Micro.LeavesCs : Micro → Prop
  | .setOe sig _ => sig ≠ .cs
  | .setOut sig _ => sig ≠ .cs
  | .setState _ => False
  | .judge _ => False
  | _ => True

/-- `t` has chip-select and `state` of `s`. -/
structure SameCs (s t : State) : Prop where
  oe : t.oe.cs = s.oe.cs
  out : t.out.cs = s.out.cs
  state : t.state = s.state

theorem SameCs.shielded {s t : State} (h : SameCs s t) (hs : Shielded s) : Shielded t := by
  unfold Shielded CsAsserted
  rw [h.oe, h.out, h.state]
  exact hs

theorem Levels.set_cs {sig : Signal} (h : sig ≠ .cs) (l : Levels) (v : Bool) : (l.set sig v).cs = l.cs := by
  cases sig
  case cs => exact absurd rfl h
  all_goals rfl

theorem setOe_sameCs {sig : Signal} (h : sig ≠ .cs) (v : Bool) (s : State) : SameCs s (s.setOe sig v) :=
  ⟨by rw [State.setOe_oe, Levels.set_cs h], by rw [State.setOe_out], State.setOe_state ..⟩

theorem setOut_sameCs {sig : Signal} (h : sig ≠ .cs) (v : Bool) (s : State) : SameCs s (s.setOut sig v) :=
  ⟨rfl, Levels.set_cs h _ _, rfl⟩

theorem bitOut_sameCs (i : BitVec 3) (s : State) : SameCs s (bitOut i s) := by
  have hOut (v : Bool) : SameCs s (({ s with bitIdx := i } : State).setOut .data v) := ⟨rfl, rfl, rfl⟩
  simp only [bitOut]
  split
  · have hOe (t : State) : SameCs t (t.setOe .data true) := setOe_sameCs (by decide) true t
    exact ⟨(hOe _).oe.trans (hOut _).oe, (hOe _).out.trans (hOut _).out, (hOe _).state.trans (hOut _).state⟩
  · exact hOut _

theorem startChecks_sameCs (ch : Option Channel) (s : State) : SameCs s (startChecks ch s).state := by
  unfold startChecks
  split
  · exact ⟨rfl, rfl, rfl⟩
  · rw [check_state]; exact ⟨rfl, rfl, rfl⟩

theorem act_sameCs {m : Micro} (hm : m.LeavesCs) (s : State) : SameCs s (act m s).state := by
  cases m
  case setState | judge => exact hm.elim
  case setOe sig v => exact setOe_sameCs hm v s
  case setOut sig v => exact setOut_sameCs hm v s
  case bitOut i => exact bitOut_sameCs i s
  case startChecks ch => exact startChecks_sameCs ch s
  case postChecks ch => rw [act, check_state]; exact ⟨rfl, rfl, rfl⟩
  case faultGate | requireIdle | endAllowed | checkRev | checkRetime =>
    simp only [act]
    split <;> exact ⟨rfl, rfl, rfl⟩
  all_goals exact ⟨rfl, rfl, rfl⟩

theorem keepShield_of_leavesCs {test : Prop} {ms : List Micro} (h : ∀ m ∈ ms, m.LeavesCs) : KeepShield test ms := by
  induction ms with
  | nil => exact fun _ hs => hs
  | cons m ms ih =>
    obtain ⟨hm, hms⟩ := List.forall_mem_cons.1 h
    intro s hs
    have hact := (act_sameCs hm s).shielded hs
    cases hcase : act m s with
    | go t => rw [hcase] at hact; exact (runsShielded_go hcase).2 (ih hms t hact)
    | stop r t => rw [hcase] at hact; exact (runsShielded_stop hcase).2 hact
    | pause n t =>
      obtain ⟨rfl, rfl⟩ := act_pause hcase
      exact runsShielded_wait.2 ⟨.inr hs, fun k c l => ih hms _ hs⟩

/-! ### Frames -/

section
variable {test : Prop} (cfg : Params)

theorem keepShield_sendByte (b : Byte) : KeepShield test (sendByte cfg b) :=
  keepShield_of_leavesCs (by simp [sendByte, bitsDown, bitOutCell, Micro.LeavesCs])

theorem keepShield_recvByte : KeepShield test (recvByte cfg) :=
  keepShield_of_leavesCs (by simp [recvByte, bitsDown, bitInCell, Micro.LeavesCs])

/-- `start` asserts chip-select and enters `InFrame` in one instant (R141). -/
theorem keepShield_startOps (ch : Option Channel) : KeepShield test (startOps cfg ch) := by
  intro s hs
  refine RunsShielded.append (a := [.startChecks ch]) (P := fun _ => True) ?_ fun u _ => ?_
  · have hact := (startChecks_sameCs ch s).shielded hs
    simp only [RunsShielded, act]
    split
    case h_1 => trivial
    case h_2 n t h => exact absurd (act_pause (m := .startChecks ch) h).1 nofun
    case h_3 r t h => rw [h] at hact; exact hact
  · have hin : ∀ k c l, Shielded { u.setOut .cs false with state := .inFrame, time := k, waitCnt := c, todo := l } :=
      fun _ _ _ _ => rfl
    exact ⟨.inr fun _ => rfl, hin⟩

/-- `end` drives chip-select high before it leaves `InFrame` (R143). -/
theorem keepShield_endOps (ch : Option Channel) : KeepShield test (endOps cfg ch) := by
  intro s hs
  by_cases hallowed : s.state ≠ .idle ∧ s.state ≠ .inFrame
  · exact (runsShielded_stop (by rw [act, if_pos hallowed])).2 hs
  · refine (runsShielded_go (by rw [act, if_neg hallowed])).2 ?_
    have hhigh {u : State} (hu : u.out.cs = true) : Shielded u := fun h => absurd (hu.symm.trans h.2) nofun
    simp only [RunsShielded, act]
    refine ⟨.inr (hhigh (by simp [Levels.set])), fun k c l => ?_⟩
    exact keepShield_of_leavesCs (ms := [.postChecks ch]) (by simp [Micro.LeavesCs]) _ (hhigh (by simp [Levels.set]))

theorem keepShield_writeFrame (ch : Option Channel) (instr data : Byte) :
    KeepShield test (writeFrame cfg ch instr data) :=
  (((keepShield_startOps cfg ch).append (keepShield_sendByte cfg instr)).append (keepShield_sendByte cfg data)).append
    (keepShield_endOps cfg ch)

theorem keepShield_readFrame (ch : Option Channel) (instr : Byte) : KeepShield test (readFrame cfg ch instr) := by
  have hturn : KeepShield test [.wait cfg.tTurn, .setOe .data false] :=
    keepShield_of_leavesCs (by simp [Micro.LeavesCs])
  have hstage : KeepShield test [.stageRdata] := keepShield_of_leavesCs (by simp [Micro.LeavesCs])
  exact (((((keepShield_startOps cfg ch).append (keepShield_sendByte cfg instr)).append hturn).append
    (keepShield_recvByte cfg)).append hstage).append (keepShield_endOps cfg ch)

theorem keepShield_select (c : Channel) : KeepShield test [.requireIdle (some c), .setChsel c] :=
  keepShield_of_leavesCs (by simp [Micro.LeavesCs])

theorem keepShield_deviceWrite (c : Channel) (reg val : Byte) : KeepShield test (deviceWrite cfg c reg val) :=
  (keepShield_select c).append (keepShield_writeFrame cfg _ _ _)

theorem keepShield_deviceRead (c : Channel) (reg : Byte) : KeepShield test (deviceRead cfg c reg) :=
  (keepShield_select c).append (keepShield_readFrame cfg _ _)

theorem keepShield_bringUp (c : Channel) : KeepShield test (bringUp cfg c) := by
  have hsteps {ms : List Micro} (h : ∀ m ∈ ms, m.LeavesCs) : KeepShield test ms := keepShield_of_leavesCs h
  refine ((((((KeepShield.append ?_ (keepShield_deviceRead cfg c _)).append ?_).append
    (keepShield_deviceRead cfg c _)).append ?_).append (keepShield_deviceWrite cfg c _ _)).append
    (keepShield_deviceWrite cfg c _ _)).append ?_
  all_goals exact hsteps (by simp [Micro.LeavesCs])

theorem keepShield_dacInitOps : KeepShield test (dacInitOps cfg) := by
  refine keepShield_gated (KeepShield.append (KeepShield.append ?_ (.flatMap _ (keepShield_bringUp cfg))) ?_)
  all_goals exact keepShield_of_leavesCs (by simp [Micro.LeavesCs])

/-! ### The self-test -/

theorem shielded_of_released {s : State} (h : s.oe.cs = false) : Shielded s :=
  fun ha => absurd (h.symm.trans ha.1) nofun

theorem judge_runsShielded (sig : Signal) {s : State} (hs : s.oe.cs = false) :
    RunsShielded True [.judge sig] (fun u => u.oe.cs = false) s := by
  cases h : classify s.stH s.stL with
  | none => exact (runsShielded_go (t := s) (by simp only [act, judge, h])).2 hs
  | some code =>
    exact (runsShielded_stop (t := { s with stRec := ⟨code, sig⟩, state := .fault })
      (by simp only [act, judge, h]; rfl)).2 (shielded_of_released hs)

/-- A signal's test begins and ends with chip-select released, whatever its waits show (R150). -/
theorem testSignal_runsShielded (sig : Signal) {s : State} (hs : s.oe.cs = false) :
    RunsShielded True (testSignal cfg sig) (fun u => u.oe.cs = false) s := by
  refine ⟨.inl trivial, fun _ _ _ => ⟨.inl trivial, fun _ _ _ => judge_runsShielded sig ?_⟩⟩
  cases sig <;> simp [Levels.set, hs]

theorem keepShield_tInitOps : KeepShield True (tInitOps cfg) := by
  refine keepShield_gated fun s _ => ?_
  refine ((((RunsShielded.append (P := fun u => u.oe.cs = false) ?_ fun u hu => testSignal_runsShielded cfg .cs hu).append
    fun u hu => testSignal_runsShielded cfg .clk hu).append fun u hu => testSignal_runsShielded cfg .data hu).append
    fun u _ => ?_)
  · simp [RunsShielded, act, Levels.set]
  · simp [RunsShielded, act, Levels.set, Shielded]

/-- No command but the line writes asserts chip-select outside a frame, but for the self-test at its waits. -/
theorem keepShield_programOf {i : Instr} (hi : pokesLine i = false) : KeepShield (i = .tInit) (programOf cfg i) := by
  cases i
  case lineSetOe | lineDrive => cases hi
  case tInit => simpa only [programOf] using keepShield_tInitOps cfg
  case tStart => exact keepShield_gated (keepShield_startOps cfg none)
  case tEnd => exact keepShield_gated (keepShield_endOps cfg none)
  case tWrite instr data => exact keepShield_gated (keepShield_writeFrame cfg none instr data)
  case tRead instr => exact keepShield_gated (keepShield_readFrame cfg none instr)
  case dacWrite ch reg data => exact keepShield_gated (keepShield_deviceWrite cfg ch reg data)
  case dacRead ch reg => exact keepShield_gated (keepShield_deviceRead cfg ch reg)
  case dacInit => exact keepShield_dacInitOps cfg
  all_goals
    exact keepShield_of_leavesCs (by simp [programOf, nopOps, lineSenseOps, illegalOps, Micro.LeavesCs])

end

/-! ### Ticks -/

/-- The block at rest, or at a wait of a command that keeps chip-select shielded. -/
structure Guarded (test : Prop) (s : State) : Prop where
  rst : s.rst = false
  idle : s.busy = false → Shielded s
  waiting : s.busy = true → (test ∨ Shielded s) ∧
    ∀ k c l, RunsShielded test s.todo Shielded { s with time := k, waitCnt := c, todo := l }

theorem guarded_of_idle {test : Prop} {s : State} (hr : s.rst = false) (hb : s.busy = false) (hs : Shielded s) :
    Guarded test s :=
  ⟨hr, fun _ => hs, fun hb' => absurd (hb.symm.trans hb') nofun⟩

theorem RunsShielded.guarded {test : Prop} {ms : List Micro} {s : State} (h : RunsShielded test ms Shielded s)
    (hr : s.rst = false) (hb : s.busy = true) : Guarded test (run ms s) := by
  induction ms generalizing s with
  | nil => exact guarded_of_idle hr rfl h
  | cons m ms ih =>
    cases hact : act m s with
    | go t =>
      have kept := act_go_kept hact
      rw [run_go hact]
      exact ih ((runsShielded_go hact).1 h) (kept.rst.trans hr) (kept.busy.trans hb)
    | stop r t =>
      rw [run_stop hact]
      exact guarded_of_idle ((act_stop_kept hact).rst.trans hr) rfl ((runsShielded_stop hact).1 h)
    | pause n t =>
      obtain ⟨rfl, rfl⟩ := act_pause hact
      obtain ⟨hwait, hrest⟩ := runsShielded_wait.1 h
      by_cases hn : n = 0
      · subst hn
        rw [run_wait_zero]
        exact ih (hrest t.time t.waitCnt t.todo) hr hb
      · rw [run_wait n hn]
        exact ⟨hr, fun hb' => absurd (hb.symm.trans hb') nofun, fun _ => ⟨hwait, hrest⟩⟩

theorem Guarded.tick {test : Prop} {s : State} (h : Guarded test s) : Guarded test (tick s) := by
  by_cases hb : s.busy = true
  · obtain ⟨hwait, hrest⟩ := h.waiting hb
    by_cases hw : s.waitCnt ≤ 1
    · have hend : Machine.tick s = run s.todo { s with time := s.time + 1, waitCnt := 0, todo := [] } := by
        simp [Machine.tick, h.rst, hb, hw]
      rw [hend]
      exact (hrest (s.time + 1) 0 []).guarded h.rst hb
    · rw [tick_waits s h.rst hb (by omega)]
      exact ⟨h.rst, fun hb' => absurd (hb.symm.trans hb') nofun, fun _ => ⟨hwait, hrest⟩⟩
  · have hb : s.busy = false := by simpa using hb
    rw [tick_idle s h.rst hb]
    exact guarded_of_idle h.rst hb (h.idle hb)

theorem Guarded.ticks {test : Prop} {s : State} (h : Guarded test s) (k : Nat) : Guarded test (ticks k s) := by
  induction k generalizing s with
  | zero => exact h
  | succ k ih => exact ih h.tick

/-- An idle sequencer given a wire byte shifts it out, as a command of its own (log entry 2). -/
theorem shiftOutNext_guarded (test : Prop) (b : Byte) {s : State} (hr : s.rst = false) (hb : s.busy = false)
    (hs : Shielded s) : Guarded test (shiftOutNext b s) := by
  have hrun : shiftOutNext b s = run (sendByte s.cfg b) s.accepted := by
    rw [shiftOutNext, if_neg (by simp [hb])]
    exact congrArg (fun ms => run ms s.accepted) (List.append_nil _)
  rw [hrun]
  exact (keepShield_sendByte s.cfg b s.accepted hs).guarded hr rfl

theorem exec_guarded {i : Instr} (hi : pokesLine i = false) {s t : State} (hr : s.rst = false) (hb : s.busy = false)
    (hs : Shielded s) (h : exec i s = .next t) : Guarded (i = .tInit) t := by
  by_cases hword : ∃ w, encode i = .cmd w
  · rw [exec_eq_run hword] at h
    cases h
    exact (keepShield_programOf s.cfg hi s.accepted hs).guarded hr rfl
  · cases i
    case wireWriteInstr | wireReadInstr => cases h; exact shiftOutNext_guarded _ _ hr hb hs
    all_goals exact absurd ⟨_, rfl⟩ hword

/-- Settles O58: the block stays guarded from the acceptance on. -/
theorem chipSelectOnlyInAFrame : Obligations.ChipSelectOnlyInAFrame := by
  intro s i hr hb hi hs t h k hcs
  have hg := (exec_guarded hi hr hb hs h).ticks k
  cases hbusy : (ticks k t).busy with
  | false => exact .inl (hg.idle hbusy hcs)
  | true =>
    obtain ⟨htest | hshield, -⟩ := hg.waiting hbusy
    · exact .inr ⟨htest, rfl⟩
    · exact .inl (hshield hcs)

end Sys2Proof.Machine
end

section
/-! SUPPORT. The host window and the results a host reads (R40, R60 to R68): which accesses are admitted, what a read
returns, and what a running command leaves of `RESULT`, `FAULT` and the flags. -/

namespace Sys2Proof.Machine

/-! ### Results while a command runs -/

/-- A statement other than `lines.sense` leaves `RESULT.SENSE` (R40). -/
theorem act_senseBit {m : Micro} (hm : ∀ sig, m ≠ .senseLine sig) (s : State) :
    (act m s).state.senseBit = s.senseBit := by
  cases m
  case senseLine sig => exact absurd rfl (hm sig)
  case setOe sig v => exact s.setOe_senseBit sig v
  case bitOut i => simp only [act, Flow.state, bitOut]; split <;> simp
  case startChecks ch =>
    simp only [act, startChecks]
    split
    · rfl
    · rw [check_state, State.sampled_senseBit]
  case postChecks ch => rw [act, check_state, State.sampled_senseBit]
  case judge sig => simp only [act, judge]; split <;> rfl
  case faultGate | requireIdle | endAllowed | checkRev | checkRetime => simp only [act]; split <;> rfl
  all_goals rfl

theorem senseLine_notMem_writeFrame (sig : Signal) (cfg : Params) (ch : Option Channel) (instr data : Byte) :
    .senseLine sig ∉ writeFrame cfg ch instr data := by
  simp [writeFrame, startOps, sendByte, bitsDown, bitOutCell, endOps]

theorem senseLine_notMem_readFrame (sig : Signal) (cfg : Params) (ch : Option Channel) (instr : Byte) :
    .senseLine sig ∉ readFrame cfg ch instr := by
  simp [readFrame, startOps, sendByte, recvByte, bitsDown, bitOutCell, bitInCell, endOps]

theorem senseLine_notMem_deviceWrite (sig : Signal) (cfg : Params) (c : Channel) (reg val : Byte) :
    .senseLine sig ∉ deviceWrite cfg c reg val := by
  simp [deviceWrite, senseLine_notMem_writeFrame]

theorem senseLine_notMem_deviceRead (sig : Signal) (cfg : Params) (c : Channel) (reg : Byte) :
    .senseLine sig ∉ deviceRead cfg c reg := by
  simp [deviceRead, senseLine_notMem_readFrame]

/-- `LINE_SENSE` alone assigns `RESULT.SENSE` (R40, R113). -/
theorem senseLine_mem_programOf {sig : Signal} {cfg : Params} {i : Instr} (h : .senseLine sig ∈ programOf cfg i) :
    i = .lineSense sig := by
  cases i
  case lineSense sig' => simpa [programOf, lineSenseOps, eq_comm] using h
  case nop | lineSetOe | lineDrive | reservedOpC | reservedOpD | reservedOpE | reservedOpF | reservedBits |
      wireWriteInstr | wireReadInstr =>
    simp [programOf, nopOps, lineSetOeOps, lineDriveOps, illegalOps] at h
  case tInit => simp [programOf, tInitOps, gated, testSignal] at h
  case tStart => simp [programOf, tStartOps, gated, startOps] at h
  case tEnd => simp [programOf, tEndOps, gated, endOps] at h
  case tWrite => simp [programOf, tWriteOps, gated, senseLine_notMem_writeFrame] at h
  case tRead => simp [programOf, tReadOps, gated, senseLine_notMem_readFrame] at h
  case dacWrite => simp [programOf, dacWriteOps, gated, senseLine_notMem_deviceWrite] at h
  case dacRead => simp [programOf, dacReadOps, gated, senseLine_notMem_deviceRead] at h
  case dacInit =>
    simp [programOf, dacInitOps, gated, bringUp, senseLine_notMem_deviceRead, senseLine_notMem_deviceWrite] at h

/-- After a wait no command assigns `RESULT.SENSE`: `LINE_SENSE` waits for nothing (R113). -/
theorem senseLine_notMem_after_wait {cfg : Params} {i : Instr} {n : Nat} {rest : List Micro}
    (h : .wait n :: rest <:+ programOf cfg i) (sig : Signal) : .senseLine sig ∉ rest := by
  intro hmem
  obtain rfl := senseLine_mem_programOf (h.subset (List.mem_cons_of_mem _ hmem))
  have hwait : Micro.wait n ∈ lineSenseOps sig := h.subset List.mem_cons_self
  simp [lineSenseOps] at hwait

/-- `t` has the results of `s` that a host reads (R68), and its `cur_cmd`. -/
structure ResultsKept (s t : State) : Prop where
  err : t.err = s.err
  dacReady : t.dacReady = s.dacReady
  rdata : t.rdata = s.rdata
  senseBit : t.senseBit = s.senseBit
  fault : t.fault = s.fault
  curCmd : t.curCmd = s.curCmd

theorem ResultsKept.resultWord {s t : State} (h : ResultsKept s t) : t.resultWord = s.resultWord := by
  rw [State.resultWord, State.resultWord, h.rdata, h.senseBit]

/-- A run that stops at a wait has completed nothing, so it keeps every result; `SENSE`, which is not staged, because no
statement of the run assigns it. -/
theorem run_resultsKept {ms : List Micro} (hms : ∀ sig, .senseLine sig ∉ ms) {s : State}
    (hbusy : (run ms s).busy = true) : ResultsKept s (run ms s) := by
  have hact : ∀ m ∈ ms, ∀ u : State, (act m u).state.senseBit = u.senseBit := fun m hm =>
    act_senseBit fun sig heq => hms sig (heq ▸ hm)
  have hend : EndsWith (fun u => u.senseBit = s.senseBit) (fun _ _ => True) ms s (run ms s) := by
    refine run_endsWith (fun m hm u v hu hgo => ?_) (fun _ _ _ _ _ _ _ => trivial) rfl
    have hsense := hact m hm u
    rw [hgo] at hsense
    exact hsense.trans hu
  cases hend with
  | paused u n rest hsense kept _ _ result =>
    rw [result]
    exact ⟨kept.err, kept.dacReady, kept.rdata, hsense, kept.fault, kept.curCmd⟩
  | done u _ _ result => rw [result, State.ok_busy] at hbusy; cases hbusy
  | failed u r _ _ result => rw [result, State.fail_busy] at hbusy; cases hbusy

/-- A tick after which the command still runs leaves the results (R68). -/
theorem TickTo.resultsKept {s t : State} (h : TickTo s t) (hs : s.Inv) (hbusy : t.busy = true) : ResultsKept s t := by
  cases h with
  | held | idle | waits => exact ⟨rfl, rfl, rfl, rfl, rfl, rfl⟩
  | resumes _ hb =>
    obtain ⟨i, n, -, hsuf, -⟩ := hs.program hb
    obtain ⟨herr, hready, hrdata, hsense, hfault, hcur⟩ := run_resultsKept (senseLine_notMem_after_wait hsuf) hbusy
    exact ⟨herr, hready, hrdata, hsense, hfault, hcur⟩

/-- So does every other input: `rst` ends the command, and a word is accepted only where none runs. -/
theorem Reaction.resultsKept {s t : State} {input : Input} (h : Reaction s input t) (hs : s.Inv) (hb : s.busy = true)
    (hbusy : t.busy = true) : ResultsKept s t := by
  cases h with
  | tick => exact (tick_cases s fun hb => (hs.waiting hb).1).resultsKept hs hbusy
  | rst level =>
    cases level with
    | true => cases hbusy
    | false => exact ⟨rfl, rfl, rfl, rfl, rfl, rfl⟩
  | read off width =>
    obtain ⟨ds, n, w, he⟩ := busRead_eq off s
    rw [he]; exact ⟨rfl, rfl, rfl, rfl, rfl, rfl⟩
  | device drives =>
    obtain ⟨c, he⟩ := setDevice_eq drives s
    rw [he]; exact ⟨rfl, rfl, rfl, rfl, rfl, rfl⟩
  | ignored | overrun => exact ⟨rfl, rfl, rfl, rfl, rfl, rfl⟩
  | accepted w _ hidle => exact absurd (hb.symm.trans hidle) nofun

/-- Settles O26: whatever the next input is, a command that still runs after it has completed nothing. -/
theorem resultsChangeOnlyAtCompletion : Obligations.ResultsChangeOnlyAtCompletion := by
  intro s t hs hb h hbusy
  have hs' := hs.environment s.inputs.tail s.draws s.drawCount s.busData s.deviceDrives s.contention
  have kept := (step_cases h).resultsKept hs' hb hbusy
  exact ⟨kept.err, kept.dacReady, kept.resultWord, kept.fault, kept.curCmd⟩

/-! ### Reads -/

theorem busRead_lines (s : State) : busRead 0x10 s = { s with
    busData := s.linesWord (s.pinsAt 0), draws := s.draws.drop 1, drawCount := s.drawCount + 1 } := by
  rw [pinsAt_zero, List.drop_one]
  rfl

/-- Settles O15: each of the six offsets is admitted, and `LINES` takes one sampling instant (`busRead_lines`). -/
theorem readsReturnTheRegister : Obligations.ReadsReturnTheRegister := by
  intro s rest
  refine ⟨?cmd, ?status, ?result, ?fault, ?lines, ?aux⟩ <;> intro h
  case lines => rw [step_read h rfl, busRead_lines]; rfl
  all_goals exact step_read h rfl

/-! ### Which accesses are admitted -/

theorem accessRefusal_eq_accessNotAdmitted {off width : Nat} :
    accessRefusal off width = some .accessNotAdmitted ↔ width ≠ 4 ∨ off % 4 ≠ 0 := by
  unfold accessRefusal
  split
  case isTrue hbad => exact ⟨fun _ => hbad, fun _ => rfl⟩
  case isFalse hgood => split <;> exact ⟨nofun, fun hbad => absurd hbad hgood⟩

theorem accessRefusal_outsideWindow {off : Nat} (haligned : off % 4 = 0) (hout : 32 ≤ off) :
    accessRefusal off 4 = some .outsideWindow := by
  rw [accessRefusal, if_neg (by simp [haligned]), if_pos hout]

/-- An admitted write is always answered (R38, R39, R44, R260). -/
theorem busWrite_answers (off : Nat) (v : Word) (s : State) : ∃ t, busWrite off v s = .next t := by
  unfold busWrite
  split
  · exact ⟨_, rfl⟩
  · split
    · unfold writeCmd
      split
      · exact ⟨_, rfl⟩
      · exact ⟨_, acceptCommand_eq_run v s⟩
    · exact ⟨_, rfl⟩
    · exact ⟨_, rfl⟩

/-- The block refuses a read for the reason that `accessRefusal` gives, and for no other. -/
theorem react_read_refused {off width : Nat} {s : State} {r : Refusal} :
    react (.read off width) s = .refused r ↔ accessRefusal off width = some r := by
  rw [react]
  cases accessRefusal off width <;> simp

theorem react_write_refused {off width : Nat} {v : Word} {s : State} {r : Refusal} :
    react (.write off width v) s = .refused r ↔ accessRefusal off width = some r := by
  rw [react]
  cases accessRefusal off width with
  | none =>
    obtain ⟨t, ht⟩ := busWrite_answers off v s
    simp [ht]
  | some r' => simp

/-- Settles O16, by the refusals of a read and of a write. -/
theorem otherAccessesAreRefused : Obligations.OtherAccessesAreRefused := by
  intro s off width v rest h
  obtain h | h := h
  · rw [step_of_inputs h, react_read_refused, accessRefusal_eq_accessNotAdmitted]
  · rw [step_of_inputs h, react_write_refused, accessRefusal_eq_accessNotAdmitted]

/-! ### Host addresses -/

theorem offsetOf?_base_add (cfg : Params) {off : Nat} (h : off < 32) : offsetOf? cfg (cfg.base + off) = some off := by
  rw [offsetOf?, if_pos ⟨Nat.le_add_right _ _, Nat.add_lt_add_left h _⟩, Nat.add_sub_cancel_left]

theorem offsetOf?_outside {cfg : Params} {addr : Nat} (h : addr < cfg.base ∨ cfg.base + 32 ≤ addr) :
    offsetOf? cfg addr = none := by
  rw [offsetOf?, if_neg (by omega)]

/-- Settles O17: `offsetOf?` finds the offset of an address in the window, and `accessRefusal` refuses any other offset. -/
theorem hostAddressesReachTheWindow : Obligations.HostAddressesReachTheWindow := by
  intro s v
  refine ⟨fun off width hoff => ?_, fun addr width hout => ?_, fun off haligned hout => ?_⟩
  · simp only [memRead, memWrite, offsetOf?_base_add s.cfg hoff, and_self]
  · simp only [memRead, memWrite, offsetOf?_outside hout, and_self]
  · have href := accessRefusal_outsideWindow haligned hout
    exact ⟨react_read_refused.2 href, react_write_refused.2 href⟩

end Sys2Proof.Machine
end

section
/-! SUPPORT. Encodings (30_encoding.md): the wire bytes, the decoder of command words, and what an accepted word runs. -/

namespace Sys2Proof

/-! ### Wire bytes (R90 to R95) -/

section
variable (high : BitVec 3) (low : BitVec 5)

theorem getLsbD_wireByte (i : Nat) :
    (high ++ low : Byte).getLsbD i = if i < 5 then low.getLsbD i else high.getLsbD (i - 5) :=
  BitVec.getLsbD_append

theorem lowBits_wireByte : (high ++ low : Byte).extractLsb' 0 5 = low := by
  apply BitVec.eq_of_getLsbD_eq
  intro i hi
  rw [BitVec.getLsbD_extractLsb', getLsbD_wireByte]
  simp [hi]

theorem highBits_wireByte : (high ++ low : Byte).extractLsb' 5 3 = high := by
  apply BitVec.eq_of_getLsbD_eq
  intro i hi
  rw [BitVec.getLsbD_extractLsb', getLsbD_wireByte]
  simp [hi]

end

theorem writeInstruction_eq_append (a : Byte) : writeInstruction a = 0b000#3 ++ a.extractLsb' 0 5 := by
  apply BitVec.eq_of_getLsbD_eq
  intro i hi
  rw [writeInstruction, BitVec.getLsbD_and, getLsbD_wireByte, BitVec.getLsbD_extractLsb']
  interval_cases i <;> simp

theorem readInstruction_eq_append (a : Byte) : readInstruction a = 0b100#3 ++ a.extractLsb' 0 5 := by
  apply BitVec.eq_of_getLsbD_eq
  intro i hi
  rw [readInstruction, BitVec.getLsbD_or, BitVec.getLsbD_and, getLsbD_wireByte, BitVec.getLsbD_extractLsb']
  interval_cases i <;> simp

/-- Bit 7 is set in any case, so the mask 0x9F of R91 keeps no more than 0x1F does. -/
theorem readInstruction_eq_or (a : Byte) : readInstruction a = 0x80#8 ||| (a &&& 0x1F#8) := by
  apply BitVec.eq_of_getLsbD_eq
  intro i hi
  rw [readInstruction, BitVec.getLsbD_or, BitVec.getLsbD_or, BitVec.getLsbD_and, BitVec.getLsbD_and]
  interval_cases i <;> simp

/-- Settles O6: `writeInstruction_eq_append`, `readInstruction_eq_append` and `readInstruction_eq_or`. -/
theorem wireEncodersMaskTheAddress : Obligations.WireEncodersMaskTheAddress :=
  ⟨fun a => ⟨rfl, writeInstruction_eq_append a⟩,
    fun a => ⟨rfl, readInstruction_eq_or a, readInstruction_eq_append a⟩, by decide, by decide⟩

/-- Settles O7: an encoder reads the low five bits only, and leaves them in place. -/
theorem wireEncodersAliasModulo32 : Obligations.WireEncodersAliasModulo32 := by
  refine ⟨fun a => ⟨?_, ?_⟩, fun a b h => ⟨?_, ?_⟩⟩
  · rw [writeInstruction_eq_append a, writeInstruction_eq_append, lowBits_wireByte]
  · rw [readInstruction_eq_append a, readInstruction_eq_append, lowBits_wireByte]
  · rw [writeInstruction_eq_append, writeInstruction_eq_append, h]
  · rw [readInstruction_eq_append, readInstruction_eq_append, h]

theorem writeInstruction_address (a : BitVec 5) : writeInstruction (0#3 ++ a) = 0b000#3 ++ a := by
  rw [writeInstruction_eq_append, lowBits_wireByte]

theorem readInstruction_address (a : BitVec 5) : readInstruction (0#3 ++ a) = 0b100#3 ++ a := by
  rw [readInstruction_eq_append, lowBits_wireByte]

theorem decodeWire_writeInstruction (a : BitVec 5) :
    decodeWire (writeInstruction (0#3 ++ a)) = .ok (.wireWriteInstr a) := by
  rw [decodeWire, writeInstruction_address, highBits_wireByte, lowBits_wireByte]
  rfl

theorem decodeWire_readInstruction (a : BitVec 5) :
    decodeWire (readInstruction (0#3 ++ a)) = .ok (.wireReadInstr a) := by
  rw [decodeWire, readInstruction_address, highBits_wireByte, lowBits_wireByte]
  rfl

/-! ### Command words (R81 to R89) -/

/-- The reserved bits all stand above `OP`. -/
theorem restWord_and_reservedMask (rest : BitVec 28) (op : BitVec 4) :
    (rest ++ op : Word) &&& reservedMask = (rest &&& reservedRestMask) ++ 0#4 :=
  calc rest ++ op &&& reservedMask
    _ = rest ++ op &&& (reservedRestMask ++ 0#4) := rfl
    _ = (rest &&& reservedRestMask) ++ (op &&& 0#4) := BitVec.and_append
    _ = (rest &&& reservedRestMask) ++ 0#4 := by rw [BitVec.and_zero]

theorem reserved_restWord {rest : BitVec 28} (h : rest &&& reservedRestMask = 0#28) (op : BitVec 4) :
    (rest ++ op : Word) &&& reservedMask = 0#32 := by
  rw [restWord_and_reservedMask, h]
  rfl

@[simp] theorem withSignal_signalBits (sig : Signal) (mk : Signal → Instr) :
    withSignal (signalBits sig) mk = .ok (mk sig) := by
  rw [withSignal, signalOf_signalBits]

/-- Settles O3: each field of the word reads back what the encoder put there, and no reserved bit is set but in a word of
`reservedBits`. -/
theorem decodeOfEncodeIsTheInstruction : Obligations.DecodeOfEncodeIsTheInstruction := by
  intro i hwf
  cases i
  case wireWriteInstr addr => exact decodeWire_writeInstruction addr
  case wireReadInstr addr => exact decodeWire_readInstruction addr
  case reservedBits w => exact decodeCmd_reserved (by simpa [Instr.wellFormed] using hwf)
  case reservedOpC rest | reservedOpD rest | reservedOpE rest | reservedOpF rest =>
    have hres := reserved_restWord (beq_iff_eq.1 hwf)
    simp [decode, encode, decodeCmd, hres, opField_restWord, restField_restWord]
  all_goals simp [decode, encode, decodeCmd]

theorem legalWord_iff (w : Word) : legalWord w = true ↔
    w &&& reservedMask = 0#32 ∧ (opField w).toNat ≤ 11 ∧
      ¬(1 ≤ (opField w).toNat ∧ (opField w).toNat ≤ 3 ∧ sigField w = 3#2) := by
  simp only [legalWord, Bool.and_eq_true, Bool.not_eq_true', beq_iff_eq, decide_eq_true_eq, and_assoc,
    ← Bool.not_eq_true]

theorem signalOf?_eq_none : ∀ {b : BitVec 2}, signalOf? b = none ↔ b = 3#2 := by decide

/-- A line command is a command unless its `SIG` names no signal (R85). -/
theorem withSignal_isCommand {b : BitVec 2} {mk : Signal → Instr} (hmk : ∀ sig, Machine.isCommand (mk sig) = true) :
    (∃ i, withSignal b mk = .ok i ∧ Machine.isCommand i = true) ↔ b ≠ 3#2 := by
  rw [Ne, ← signalOf?_eq_none, withSignal]
  cases signalOf? b <;> simp [hmk]

/-- Settles O4, along the decoder's branches: the reserved bits, then `OP`, then `SIG`. -/
theorem legalWordsAreTheTwelveCommands : Obligations.LegalWordsAreTheTwelveCommands := by
  intro w
  rw [legalWord_iff, decodeCmd]
  split
  case isTrue hres => simp [hres, Machine.isCommand]
  case isFalse hres =>
    have hres : w &&& reservedMask = 0#32 := not_not.1 hres
    split
    case h_2 hop | h_3 hop | h_4 hop =>
      rw [withSignal_isCommand fun _ => rfl]
      simp [hres, hop]
    case h_16 =>
      have hop : 11 < (opField w).toNat := by simp only [imp_false] at *; omega
      simp [hop, Machine.isCommand]
    all_goals
      rename_i hop
      simp [hres, hop, Machine.isCommand]

theorem opField_mem {w : Word} {k : Nat} {ops : List (BitVec 4)} (h : (opField w).toNat = k)
    (hk : BitVec.ofNat 4 k ∈ ops) : opField w ∈ ops := by
  rwa [← h, BitVec.ofNat_toNat, BitVec.setWidth_eq] at hk

/-- Settles O5: for each `OP` the decoder uses the fields of R82's column "fields read" and no other. -/
theorem unreadFieldsAreIgnored : Obligations.UnreadFieldsAreIgnored := by
  refine ⟨fun w w' hop hle hres hres' hsig hval hch hreg hdata => ?_, fun w hres => ?_⟩
  · rw [decodeCmd, decodeCmd, if_neg (not_not.2 hres), if_neg (not_not.2 hres'), ← hop]
    split
    case h_2 h | h_3 h => rw [hsig (opField_mem h (by decide)), hval (opField_mem h (by decide))]
    case h_4 h => rw [hsig (opField_mem h (by decide))]
    case h_8 h => rw [hreg (opField_mem h (by decide)), hdata (opField_mem h (by decide))]
    case h_9 h => rw [hreg (opField_mem h (by decide))]
    case h_10 h =>
      rw [hch (opField_mem h (by decide)), hreg (opField_mem h (by decide)), hdata (opField_mem h (by decide))]
    case h_11 h => rw [hch (opField_mem h (by decide)), hreg (opField_mem h (by decide))]
    case h_13 h | h_14 h | h_15 h => omega
    case h_16 => simp only [imp_false] at *; omega
    all_goals rfl
  · exact Bool.eq_false_iff.2 fun hlegal => hres ((legalWord_iff w).1 hlegal).left

/-- Settles O1, word by word. -/
theorem specCommandWordsDecode : Obligations.SpecCommandWordsDecode := by
  unfold Obligations.SpecCommandWordsDecode
  decide

/-- Settles O2, word by word. -/
theorem specPlainWordsAndWireBytesDecode : Obligations.SpecPlainWordsAndWireBytesDecode := by
  unfold Obligations.SpecPlainWordsAndWireBytesDecode
  decide

end Sys2Proof

namespace Sys2Proof.Machine

/-! ### What an accepted word runs (R80) -/

/-- A command word's instruction that is none of the twelve commands has the one statement of R80. -/
theorem programOf_of_not_isCommand {i : Instr} (henc : ∃ w, encode i = .cmd w) (hi : isCommand i = false)
    (cfg : Params) : programOf cfg i = illegalOps := by
  obtain ⟨w, hw⟩ := henc
  cases i
  case reservedOpC | reservedOpD | reservedOpE | reservedOpF | reservedBits => rfl
  case wireWriteInstr | wireReadInstr => cases hw
  all_goals cases hi

theorem run_illegalOps (s : State) : run illegalOps s.accepted = { s.atRest s.state with
    err := true
    fault := if s.state = .fault then s.fault else ⟨.illegalCommand, 0#2, 0#3, .none, 0#8⟩ } := rfl

theorem wordOps_of_illegal {w : Word} (hw : legalWord w = false) (cfg : Params) : wordOps cfg w = illegalOps := by
  have hno := (legalWordsAreTheTwelveCommands w).not.1 (Bool.eq_false_iff.1 hw)
  cases hdec : decodeCmd w with
  | error e => exact wordOps_error hdec cfg
  | ok i =>
    have hi : isCommand i = false := Bool.eq_false_iff.2 fun hi => hno ⟨i, hdec, hi⟩
    rw [wordOps_ok hdec, programOf_of_not_isCommand (decodeCmd_encodes hdec) hi]

/-- Settles O11: an illegal word has the statement of R80 (`wordOps_of_illegal`), a legal one a command
(`legalWordsAreTheTwelveCommands`). -/
theorem acceptedWordRunsOrIsIllegal : Obligations.AcceptedWordRunsOrIsIllegal := by
  refine fun s w => ⟨fun hw => ?_, fun hw => ?_⟩
  · rw [acceptCommand_eq_run, wordOps_of_illegal hw, run_illegalOps]
    rfl
  · obtain ⟨i, hdec, hi⟩ := (legalWordsAreTheTwelveCommands w).1 hw
    exact ⟨i, hdec, hi, acceptCommand_ok hdec s⟩

/-- Settles O32: none of the five is one of the twelve commands. -/
theorem reservedWordsAreIllegal : Obligations.ReservedWordsAreIllegal := by
  intro s rest w i hi
  have hreserved : (∃ w', encode i = .cmd w') ∧ isCommand i = false := by
    simp only [List.mem_cons, List.not_mem_nil, or_false] at hi
    obtain rfl | rfl | rfl | rfl | rfl := hi <;> exact ⟨⟨_, rfl⟩, rfl⟩
  obtain ⟨henc, hcmd⟩ := hreserved
  rw [exec_eq_run henc, programOf_of_not_isCommand henc hcmd, run_illegalOps]

end Sys2Proof.Machine
end

section
/-! SUPPORT. Sending a byte (R96, R131, R133): a rule for statement lists that end without a failure, the cell of one bit,
and the eight cells of a byte. -/

namespace Sys2Proof.Machine

/-! ### Statement lists that end without a failure -/

/-- From `s` the sequencer gets through `ms` in `n` ticks, and then stands in `t`, whatever follows `ms`. -/
def Passes (ms : List Micro) (n : Nat) (s t : State) : Prop :=
  ∀ rest, ticks n (run (ms ++ rest) s) = run rest t

theorem Passes.done {s t : State} (h : s = t) : Passes [] 0 s t := by
  subst h
  exact fun _ => rfl

theorem Passes.go {m : Micro} {ms : List Micro} {n : Nat} {s t u : State} (hact : act m s = .go t)
    (h : Passes ms n t u) : Passes (m :: ms) n s u := by
  intro rest
  rw [List.cons_append, run_go hact, h]

/-- `wait(0)` is no wait (R12), so `k` may be 0. -/
theorem Passes.wait {k : Nat} {ms : List Micro} {n : Nat} {s u : State} (hs : s.BetweenWaits)
    (h : Passes ms n { s with time := s.time + k } u) : Passes (.wait k :: ms) (k + n) s u := by
  intro rest
  rw [List.cons_append, ticks_add]
  by_cases hk : k = 0
  · subst hk
    rw [run_wait_zero]
    exact h rest
  · rw [hs.ticks_wait hk, h]

theorem Passes.append {a b : List Micro} {m n : Nat} {s t u : State} (ha : Passes a m s t) (hb : Passes b n t u) :
    Passes (a ++ b) (m + n) s u := by
  intro rest
  rw [ticks_add, List.append_assoc, ha, hb]

theorem State.BetweenWaits.later {s : State} (h : s.BetweenWaits) (n : Nat) :
    ({ s with time := s.time + n } : State).BetweenWaits :=
  ⟨h.rst, h.busy, h.waitCnt, h.todo⟩

/-! ### The cell of one bit (R131) -/

/-- The first instant of a cell, with the event and the contention of the output enable where `DATA` floated (R48). -/
theorem bitOut_eq (i : BitVec 3) (s : State) : bitOut i s = { s with
    bitIdx := i
    oe := s.oe.set .data true
    out := s.out.set .data (s.shift.getLsbD i.toNat ^^ s.cfg.dataInvert)
    trace := (if s.oe.data = false then [⟨s.time, .oe .data true⟩] else []) ++
      ⟨s.time, .out .data (s.shift.getLsbD i.toNat ^^ s.cfg.dataInvert)⟩ :: s.trace
    contention := if s.oe.data = false ∧ s.deviceDrives = true then s.time :: s.contention else s.contention } := by
  obtain ⟨_, ⟨_, _, enabled⟩, _⟩ := s
  cases enabled with
  | true => rfl
  | false =>
    simp only [bitOut, State.setOut, State.setOe, State.emit, State.noteContention, Levels.set, if_true, true_and]
    split <;> rfl

/-- The state after the cell of bit `i` of the byte in `shift`. -/
def State.afterCell (i : BitVec 3) (s : State) : State :=
  { s with
    bitIdx := i
    oe := s.oe.set .data true
    out := ⟨s.out.cs, false, s.shift.getLsbD i.toNat ^^ s.cfg.dataInvert⟩
    time := s.time + 2 * s.cfg.tHalf
    trace :=
      (outCellEvents s.cfg.tHalf s.time (s.shift.getLsbD i.toNat ^^ s.cfg.dataInvert) (!s.oe.data)).reverse ++ s.trace
    contention := if s.oe.data = false ∧ s.deviceDrives = true then s.time :: s.contention else s.contention }

theorem bitOutCell_passes {s : State} (hs : s.BetweenWaits) (i : BitVec 3) :
    Passes (bitOutCell s.cfg i) (2 * s.cfg.tHalf) s (s.afterCell i) := by
  have hlow := hs.kept (bitOut_kept i s)
  have hhigh := (hlow.later s.cfg.tHalf).kept (setOut_kept .clk true _)
  rw [Nat.two_mul]
  refine .go rfl (.wait hlow (.go rfl (.wait (n := 0) hhigh (.go rfl (.done ?_)))))
  rw [bitOut_eq]
  cases h : s.oe.data <;>
    simp [State.afterCell, outCellEvents, State.setOut, State.emit, Levels.set, h, Nat.add_assoc, Nat.two_mul]

/-! ### The cells of a byte (R96, R133) -/

/-- The state after the cells of bits 7 down to 7 - `k` of the byte `b`. For `k` = 7 the events are `sentEvents` of `b`. -/
def State.bitsSent (b : Byte) (k : Nat) (s : State) : State :=
  { s with
    shift := b
    bitIdx := BitVec.ofNat 3 (7 - k)
    oe := s.oe.set .data true
    out := ⟨s.out.cs, false, b.getMsbD k ^^ s.cfg.dataInvert⟩
    time := s.time + 2 * (k + 1) * s.cfg.tHalf
    trace := ((List.range (k + 1)).flatMap fun j =>
        outCellEvents s.cfg.tHalf (s.time + 2 * j * s.cfg.tHalf) (b.getMsbD j ^^ s.cfg.dataInvert)
          (!s.oe.data && j == 0)).reverse ++ s.trace
    contention := if s.oe.data = false ∧ s.deviceDrives = true then s.time :: s.contention else s.contention }

theorem State.BetweenWaits.bitsSent {s : State} (h : s.BetweenWaits) (b : Byte) (k : Nat) :
    (s.bitsSent b k).BetweenWaits :=
  ⟨h.rst, h.busy, h.waitCnt, h.todo⟩

theorem getLsbD_down (b : Byte) {k : Nat} (hk : k < 8) : b.getLsbD (BitVec.ofNat 3 (7 - k)).toNat = b.getMsbD k := by
  have hindex : (BitVec.ofNat 3 (7 - k)).toNat = 7 - k := by
    rw [BitVec.toNat_ofNat]
    omega
  rw [hindex, BitVec.getMsbD_eq_getLsbD]
  simp [hk]

theorem afterCell_first (b : Byte) (s : State) :
    ({ s with shift := b } : State).afterCell (BitVec.ofNat 3 7) = s.bitsSent b 0 := by
  simp [State.afterCell, State.bitsSent, ← getLsbD_down b (k := 0)]

theorem afterCell_next (b : Byte) {k : Nat} (hk : k + 1 < 8) (s : State) :
    (s.bitsSent b k).afterCell (BitVec.ofNat 3 (7 - (k + 1))) = s.bitsSent b (k + 1) := by
  have hbit : (s.bitsSent b k).shift.getLsbD (BitVec.ofNat 3 (7 - (k + 1))).toNat = b.getMsbD (k + 1) :=
    getLsbD_down b hk
  have htime : s.time + 2 * (k + 1) * s.cfg.tHalf + 2 * s.cfg.tHalf = s.time + 2 * (k + 1 + 1) * s.cfg.tHalf := by ring
  rw [State.afterCell, hbit]
  simp [State.bitsSent, Levels.set, List.range_succ, htime]

theorem bits_pass {s : State} (hs : s.BetweenWaits) (b : Byte) {k : Nat} (hk : k < 8) :
    Passes ((List.range (k + 1)).flatMap fun j => bitOutCell s.cfg (BitVec.ofNat 3 (7 - j)))
      (2 * (k + 1) * s.cfg.tHalf) { s with shift := b } (s.bitsSent b k) := by
  induction k with
  | zero =>
    rw [← afterCell_first]
    exact bitOutCell_passes (s := { s with shift := b }) ⟨hs.rst, hs.busy, hs.waitCnt, hs.todo⟩ (BitVec.ofNat 3 7)
  | succ k ih =>
    have hlast := bitOutCell_passes (hs.bitsSent b k) (BitVec.ofNat 3 (7 - (k + 1)))
    rw [afterCell_next b hk] at hlast
    have hticks : 2 * (k + 1 + 1) * s.cfg.tHalf = 2 * (k + 1) * s.cfg.tHalf + 2 * s.cfg.tHalf := by ring
    rw [List.range_succ, List.flatMap_append, List.flatMap_singleton, hticks]
    exact (ih (by omega)).append hlast

theorem bitsDown_eq_map : bitsDown = (List.range 8).map fun k => BitVec.ofNat 3 (7 - k) := by decide

/-- A byte goes out most-significant bit first, in sixteen half-periods (R133). -/
theorem sendByte_passes {s : State} (hs : s.BetweenWaits) (b : Byte) :
    Passes (sendByte s.cfg b) (16 * s.cfg.tHalf) s (s.bitsSent b 7) := by
  rw [sendByte, bitsDown_eq_map, List.flatMap_map]
  exact .go rfl (bits_pass hs b (by decide))

/-- Where a half-period lasts some time, the block waits within the cell of bit 7. -/
theorem run_sendByte_data (b : Byte) (ms : List Micro) {s : State} (hT : 1 ≤ s.cfg.tHalf) :
    (run (sendByte s.cfg b ++ ms) s).out.data = (b.getMsbD 0 ^^ s.cfg.dataInvert) ∧
      (run (sendByte s.cfg b ++ ms) s).oe.data = true := by
  have hpaused : ∃ rest, run (sendByte s.cfg b ++ ms) s =
      { bitOut 7#3 { s with shift := b } with waitCnt := s.cfg.tHalf, todo := rest } :=
    ⟨_, run_wait _ (Nat.one_le_iff_ne_zero.1 hT) _ _⟩
  obtain ⟨rest, hpaused⟩ := hpaused
  rw [hpaused, bitOut_eq]
  exact ⟨rfl, rfl⟩

theorem shiftOutNext_busy (b : Byte) {s : State} (hb : s.busy = true) :
    shiftOutNext b s = run (sendByte s.cfg b ++ s.todo) { s with waitCnt := 0, todo := [] } := by
  simp only [shiftOutNext, if_pos hb]

theorem exec_wireWriteInstr (a : BitVec 5) (s : State) :
    exec (.wireWriteInstr a) s = .next (shiftOutNext (0b000#3 ++ a) s) := by
  rw [← writeInstruction_address]
  rfl

theorem exec_wireReadInstr (a : BitVec 5) (s : State) :
    exec (.wireReadInstr a) s = .next (shiftOutNext (0b100#3 ++ a) s) := by
  rw [← readInstruction_address]
  rfl

/-- Settles O33: either byte is sent as `sendByte_passes` says, before the statements still to run. -/
theorem wireByteIsShiftedOut : Obligations.WireByteIsShiftedOut := by
  intro s a hr hb p hp
  have hexec : exec p.1 s = .next (shiftOutNext p.2 s) := by
    simp only [List.mem_cons, List.not_mem_nil, or_false] at hp
    obtain rfl | rfl := hp
    · exact exec_wireWriteInstr a s
    · exact exec_wireReadInstr a s
  have hs : ({ s with waitCnt := 0, todo := [] } : State).BetweenWaits := ⟨hr, hb, rfl, rfl⟩
  refine ⟨_, hexec, ?_⟩
  rw [shiftOutNext_busy p.2 hb]
  exact ⟨run_sendByte_data (s := { s with waitCnt := 0, todo := [] }) p.2 s.todo, sendByte_passes hs p.2 s.todo⟩

end Sys2Proof.Machine
end

section
/-! SUPPORT. The Line Driver commands (40_line_driver.md): each completes with `ok` in the instant of its acceptance. -/

namespace Sys2Proof.Machine

/-- `ok` of a command in the state of its acceptance (R225). -/
theorem accepted_ok (s : State) :
    s.accepted.ok = { s.atRest s.state with err := false, fault := clearedFault s } := rfl

/-- A command whose one statement goes on completes at once. -/
theorem exec_of_act_go {i : Instr} (henc : ∃ w, encode i = .cmd w) {m : Micro} {s t : State}
    (hops : programOf s.cfg i = [m]) (hact : act m s.accepted = .go t) : exec i s = .next t.ok := by
  rw [exec_eq_run henc, hops, run_go hact, run_nil]

theorem noteContention_eq (s : State) : s.noteContention = { s with
    contention := if s.oe.data = true ∧ s.deviceDrives = true then s.time :: s.contention else s.contention } := by
  by_cases h : s.oe.data = true ∧ s.deviceDrives = true
  · rw [State.noteContention, if_pos h, if_pos h]
  · rw [State.noteContention, if_neg h, if_neg h]

/-- The whole state after an assignment to an output enable: an event (R27), and the contention where both sides now
drive `DATA` (R48). -/
theorem setOe_eq (sig : Signal) (v : Bool) (s : State) : s.setOe sig v = { s with
    oe := s.oe.set sig v
    trace := ⟨s.time, .oe sig v⟩ :: s.trace
    contention :=
      if sig = .data ∧ v = true ∧ s.deviceDrives = true then s.time :: s.contention else s.contention } := by
  cases sig with
  | cs | clk => rfl
  | data =>
    simp only [true_and]
    exact noteContention_eq _

/-- Settles O28: `NOP` has no statement. -/
theorem nopAcknowledges : Obligations.NopAcknowledges := by
  intro s
  rw [exec_eq_run ⟨_, rfl⟩, ← accepted_ok]
  rfl

/-- Settles O29, by `setOe_eq` from the accepted state. -/
theorem lineSetOeWritesOneEnable : Obligations.LineSetOeWritesOneEnable := by
  intro s sig v
  rw [exec_of_act_go ⟨_, rfl⟩ rfl rfl, setOe_eq]
  rfl

/-- Settles O30: the one statement is `lines.out[sig] <- v`. -/
theorem lineDriveWritesOneLevel : Obligations.LineDriveWritesOneLevel := by
  intro s sig v
  rw [exec_of_act_go ⟨_, rfl⟩ rfl rfl]
  rfl

/-- Settles O31: the sample is the first draw (`pinsAt_zero`), which `State.sampled` drops. -/
theorem lineSenseReadsOneInput : Obligations.LineSenseReadsOneInput := by
  intro s sig
  rw [exec_of_act_go ⟨_, rfl⟩ rfl rfl, pinsAt_zero, List.drop_one]
  rfl

end Sys2Proof.Machine
end

section
/-! SUPPORT. A placed wire byte (R92, R96, R133): the step that sends it. -/

namespace Sys2Proof.Machine

theorem wireByte_eq_append (b : Byte) : b = b.extractLsb' 5 3 ++ b.extractLsb' 0 5 := by
  rw [BitVec.extractLsb'_append_extractLsb'_eq_extractLsb' (by decide), BitVec.extractLsb'_eq_self]

/-- An instruction that a wire byte decodes to sends that byte. -/
theorem exec_decodedWire {b : Byte} {i : Instr} (h : decodeWire b = .ok i) (s : State) :
    exec i s = .next (shiftOutNext b s) := by
  have hb := wireByte_eq_append b
  unfold decodeWire at h
  split at h
  case h_1 hhigh =>
    cases h
    rw [exec_wireWriteInstr, hb, BitVec.eq_of_toNat_eq (y := 0b000#3) hhigh, lowBits_wireByte]
  case h_2 hhigh =>
    cases h
    rw [exec_wireReadInstr, hb, BitVec.eq_of_toNat_eq (y := 0b100#3) hhigh, lowBits_wireByte]
  case h_3 => cases h

theorem decodeTableWord_wire {w : Nat} {i : Instr} (h : decodeTableWord 8 w = some i) :
    decodeWire (BitVec.ofNat 8 w) = .ok i := by
  rw [decodeTableWord, if_pos rfl] at h
  cases hw : decodeWire (BitVec.ofNat 8 w) <;> rw [hw] at h <;> cases h
  rfl

/-- The step at the last tick of a wait after which a busy sequencer sends `b`. -/
theorem step_sendByte (b : Byte) {t : State} (hb : t.busy = true) :
    step { t with rst := false, waitCnt := 1, todo := sendByte t.cfg b ++ t.todo, inputs := .tick :: t.inputs } =
      .next (shiftOutNext b { t with rst := false, time := t.time + 1, waitCnt := 0 }) := by
  rw [step_of_inputs rfl, shiftOutNext_busy b (by exact hb)]
  exact congrArg Host.Outcome.next
    (tick_resumes { t with rst := false, waitCnt := 1, todo := sendByte t.cfg b ++ t.todo } rfl hb rfl)

/-- Settles O10: the placed byte is the next to be sent, and the sequencer is at the last tick of a wait. -/
theorem stepRunsThePlacedWireByte : Obligations.StepRunsThePlacedWireByte := by
  intro s w i h
  have hbusy : (if s.busy = true then s else s.accepted).busy = true := by split <;> simp [*]
  have htime : (if s.busy = true then s else s.accepted).time = s.time := by split <;> rfl
  rw [exec_decodedWire (decodeTableWord_wire h), State.withFetchWord, if_pos rfl, ← htime]
  exact step_sendByte _ hbusy

end Sys2Proof.Machine
end

section
/-! SUPPORT. Framing (R140 to R144): how `start` and `end` run, in any state of the lines. -/

namespace Sys2Proof.Machine

/-! ### Ticks -/

theorem ticks_idle {s : State} (hr : s.rst = false) (hb : s.busy = false) (n : Nat) :
    ticks n s = { s with time := s.time + n } := by
  induction n with
  | zero => rfl
  | succ n ih =>
    rw [ticks_succ, ih]
    exact tick_idle { s with time := s.time + n } hr hb

theorem busy_of_tick {s : State} (h : (tick s).busy = true) : s.busy = true := by
  by_contra hb
  have hb : s.busy = false := by simpa using hb
  simp only [tick, hb] at h
  split at h
  · exact absurd (hb.symm.trans h) nofun
  · cases h

theorem busy_of_ticks {s : State} {n : Nat} (h : (ticks n s).busy = true) {k : Nat} (hk : k ≤ n) :
    (ticks k s).busy = true := by
  induction n, hk using Nat.le_induction with
  | base => exact h
  | succ n _ ih => exact ih (busy_of_tick (ticks_succ n s ▸ h))

/-- Up to the last tick of a wait the command runs, whatever it does after that wait (R35). -/
theorem Passes.busy_until {ms : List Micro} {n : Nat} {s t : State} (h : Passes ms n s t) (ht : t.BetweenWaits)
    {w : Nat} (hw : w ≠ 0) (rest : List Micro) {k : Nat} (hk : k < n + w) :
    (ticks k (run (ms ++ .wait w :: rest) s)).busy = true := by
  have hlast : (ticks (n + (w - 1)) (run (ms ++ .wait w :: rest) s)).busy = true := by
    rw [ticks_add, h, run_wait w hw, ticks_within_wait (s := { t with waitCnt := w, todo := rest }) ht.rst ht.busy]
    · exact ht.busy
    · simp only; omega
  exact busy_of_ticks hlast (by omega)

/-! ### Sampling instants -/

/-- The sampling instants of a state that `k` samples lead to. -/
theorem pinsAt_later {s t : State} {k : Nat} (hdraws : t.draws = s.draws.drop k)
    (hcount : t.drawCount = s.drawCount + k) (j : Nat) : t.pinsAt j = s.pinsAt (k + j) := by
  unfold State.pinsAt
  rw [hdraws, hcount, List.drop_drop, Nat.add_assoc]

/-! ### Completion -/

theorem State.ok_outside_fault {s : State} (h : s.stateAtAccept ≠ .fault) :
    s.ok = { s.complete with err := false, fault := FaultRec.zero } := by
  rw [State.ok, if_neg h]

theorem State.fail_outside_fault {s : State} (h : s.stateAtAccept ≠ .fault) (r : FaultRec) :
    s.fail r = { s.complete with err := true, fault := r } := by
  rw [State.fail, if_neg h]

/-- A command that fails with a precondition reason at its acceptance, having taken no sample. -/
theorem accepted_fail_precondition {s : State} (hs : s.state ≠ .fault) (r : Reason) (ch : Option Channel) :
    s.accepted.fail (.precondition r ch) = s.failedAtOnce ch r 0 := by
  rw [State.fail_outside_fault hs]
  cases ch <;> rfl

theorem accepted_sampled_fail_precondition {s : State} (hs : s.state ≠ .fault) (r : Reason) (ch : Option Channel) :
    s.accepted.sampled.fail (.precondition r ch) = s.failedAtOnce ch r 1 := by
  rw [State.fail_outside_fault hs, State.failedAtOnce, List.drop_one]
  cases ch <;> rfl

/-! ### `start` (R140, R141) -/

theorem startReason_of_firstLineFault {s : State} {p : Levels} {r : Reason} (h : FirstLineFault s p r) :
    startReason s p = some r := by
  unfold startReason
  obtain ⟨rfl, hcs⟩ | ⟨rfl, hcs, hclk⟩ | ⟨rfl, hcs, hclk, hdata⟩ := h
  · rw [if_pos hcs]
  · rw [if_neg (not_not.2 hcs), if_pos hclk]
  · rw [if_neg (not_not.2 hcs), if_neg (not_not.2 hclk), if_pos hdata]

theorem startReason_of_ready {s : State} {p : Levels} (h : LinesReady s) (hp : Quiet p) : startReason s p = none := by
  obtain ⟨hoeCs, hcs, hoeClk, hclk, hdata⟩ := h
  unfold startReason
  rw [if_neg (not_not.2 ⟨hoeCs, hcs, hp.1⟩), if_neg (not_not.2 ⟨hoeClk, hclk, hp.2⟩), if_neg hdata]

/-- Where the block's side of the lines is ready, a check that does not hold is one of an input port. -/
theorem firstLineFault_of_ready {s : State} {p : Levels} (h : LinesReady s) (hp : ¬Quiet p) :
    FirstLineFault s p (if p.cs = false then .csActive else .clkHigh) := by
  obtain ⟨hoeCs, hcs, hoeClk, hclk, -⟩ := h
  by_cases hpcs : p.cs = false
  · exact .inl ⟨if_pos hpcs, by simp [hpcs]⟩
  · have hpcs' : p.cs = true := by simpa using hpcs
    exact .inr (.inl ⟨if_neg hpcs, ⟨hoeCs, hcs, hpcs'⟩, fun hall => hp ⟨hpcs', hall.2.2⟩⟩)

section
variable {s : State} (cfg : Params) (ch : Option Channel) (rest : List Micro)

theorem run_startOps_outside_idle (hs : s.state ≠ .idle) :
    run (startOps cfg ch ++ rest) s = s.fail (.precondition .state ch) :=
  run_stop (by rw [act, startChecks, if_pos hs]) _

theorem run_startOps_fails (hs : s.state = .idle) {r : Reason} (h : FirstLineFault s (s.pinsAt 0) r) :
    run (startOps cfg ch ++ rest) s = s.sampled.fail (.precondition r ch) := by
  refine run_stop ?_ _
  rw [act, startChecks, if_neg (not_not.2 hs), ← pinsAt_zero, startReason_of_firstLineFault h]
  rfl

/-- Chip-select is asserted and the frame is open (R141). -/
def State.csLow (s : State) : State :=
  { s with
    out := s.out.set .cs false
    state := .inFrame
    trace := ⟨s.time, .out .cs false⟩ :: s.trace
    draws := s.draws.drop 1
    drawCount := s.drawCount + 1 }

theorem startChecks_pass (h : CanStart s) : act (.startChecks ch) s = .go s.sampled := by
  obtain ⟨hs, hlines, hquiet⟩ := h
  rw [act, startChecks, if_neg (not_not.2 hs), ← pinsAt_zero, startReason_of_ready hlines hquiet]
  rfl

theorem start_asserts (h : CanStart s) : Passes [.startChecks ch, .setOut .cs false, .setState .inFrame] 0 s s.csLow :=
  .go (startChecks_pass ch h) (.go rfl (.go rfl (.done (by rw [State.csLow, List.drop_one]; rfl))))

theorem State.BetweenWaits.csLow (hs : s.BetweenWaits) : s.csLow.BetweenWaits :=
  ⟨hs.rst, hs.busy, hs.waitCnt, hs.todo⟩

/-- The frame two half-periods later, at the first cell. -/
def State.opened (s : State) : State := { s.csLow with time := s.time + 2 * s.cfg.tHalf }

theorem State.BetweenWaits.opened (hs : s.BetweenWaits) : s.opened.BetweenWaits := hs.csLow.later _

theorem startOps_passes (hs : s.BetweenWaits) (h : CanStart s) :
    Passes (startOps s.cfg ch) (2 * s.cfg.tHalf) s s.opened := by
  have hopen := (start_asserts ch h).append (.wait hs.csLow (k := 2 * s.cfg.tHalf) (.done rfl))
  rwa [Nat.zero_add] at hopen

theorem run_startOps_waits (h : CanStart s) (hT : 1 ≤ s.cfg.tHalf) :
    run (startOps s.cfg ch ++ rest) s = { s.csLow with waitCnt := 2 * s.cfg.tHalf, todo := rest } :=
  (start_asserts ch h _).trans (run_wait _ (by omega) _ _)

end

/-- Outside state `Fault` the gate of R229 lets a command's own statements run. -/
theorem exec_outside_fault {i : Instr} (henc : ∃ w, encode i = .cmd w) {s : State} (hs : s.state ≠ .fault)
    {ms : List Micro} (hops : programOf s.cfg i = gated ms) : exec i s = .next (run ms s.accepted) := by
  rw [exec_eq_run henc, hops, run_gated_outside_fault (s := s.accepted) hs]

/-- What the block shows at the acceptance, whether `start` waits then or has completed. -/
theorem run_startOps_shows {s : State} (ch : Option Channel) (h : CanStart s) :
    (run (startOps s.cfg ch) s).state = .inFrame ∧ CsAsserted (run (startOps s.cfg ch) s) := by
  have hlow : s.csLow.state = .inFrame ∧ CsAsserted s.csLow := ⟨rfl, h.2.1.1, rfl⟩
  have hrun : run (startOps s.cfg ch) s = run [.wait (2 * s.cfg.tHalf)] s.csLow := start_asserts ch h _
  rw [hrun]
  by_cases hT : 2 * s.cfg.tHalf = 0
  · rw [hT, run_wait_zero]
    exact hlow
  · rw [run_wait _ hT]
    exact hlow

/-- Settles O34: the one wait of `startOps` is its last statement, so the command completes at the end of it. -/
theorem startOpensTheFrame : Obligations.StartOpensTheFrame := by
  intro s hr h
  have hs : s.accepted.BetweenWaits := ⟨hr, rfl, rfl, rfl⟩
  have hidle : s.state = .idle := h.1
  have hnf : s.state ≠ .fault := by rw [hidle]; nofun
  obtain ⟨hstate, hcs⟩ := run_startOps_shows (s := s.accepted) none h
  obtain ⟨-, -, -, htime, -⟩ := run_keeps (startOps s.cfg none) s.accepted
  refine ⟨_, exec_outside_fault ⟨_, rfl⟩ hnf rfl, hstate, hcs, htime, fun k hk => ?_, ?_⟩
  · exact (start_asserts (s := s.accepted) none h).busy_until hs.csLow (by omega) [] (by rwa [Nat.zero_add])
  · have hend := startOps_passes none hs h []
    rw [List.append_nil, run_nil, State.ok_outside_fault hnf] at hend
    rw [← hidle]
    exact hend

theorem writeFrame_eq (cfg : Params) (ch : Option Channel) (instr data : Byte) : writeFrame cfg ch instr data =
    startOps cfg ch ++ (sendByte cfg instr ++ (sendByte cfg data ++ endOps cfg ch)) := by
  simp only [writeFrame, List.append_assoc]

theorem readFrame_eq (cfg : Params) (ch : Option Channel) (instr : Byte) : readFrame cfg ch instr =
    startOps cfg ch ++ (sendByte cfg instr ++ ([.wait cfg.tTurn, .setOe .data false] ++ (recvByte cfg ++
      ([.stageRdata] ++ endOps cfg ch)))) := by
  simp only [readFrame, List.append_assoc]

/-- The transport commands that open a frame begin with `start` (R141, R155, R160). -/
theorem programOf_opens (cfg : Params) (instr data : Byte) {i : Instr}
    (hi : i ∈ [Instr.tStart, .tWrite instr data, .tRead instr]) :
    (∃ w, encode i = .cmd w) ∧ ∃ rest, programOf cfg i = gated (startOps cfg none ++ rest) := by
  simp only [List.mem_cons, List.not_mem_nil, or_false] at hi
  obtain rfl | rfl | rfl := hi
  · exact ⟨⟨_, rfl⟩, [], rfl⟩
  · exact ⟨⟨_, rfl⟩, _, congrArg gated (writeFrame_eq cfg none instr data)⟩
  · exact ⟨⟨_, rfl⟩, _, congrArg gated (readFrame_eq cfg none instr)⟩

/-- Settles O35: all three commands begin with `startOps`, and the first statement of it makes the checks. -/
theorem startReportsTheFirstBrokenPrecondition : Obligations.StartReportsTheFirstBrokenPrecondition := by
  intro s instr data hnf i hi
  obtain ⟨henc, rest, hops⟩ := programOf_opens s.cfg instr data hi
  rw [exec_outside_fault henc hnf hops]
  refine ⟨fun hs => ?_, fun hs r hr => ?_⟩
  · rw [run_startOps_outside_idle (s := s.accepted) _ _ _ hs, accepted_fail_precondition hnf]
  · rw [run_startOps_fails (s := s.accepted) _ _ _ hs hr, accepted_sampled_fail_precondition hnf]

/-! ### `end` (R143) -/

theorem endVerdict_eq_none {p : Levels} : endVerdict p = none ↔ Quiet p := by
  obtain ⟨cs, clk, _⟩ := p
  cases cs <;> cases clk <;> simp [endVerdict, Quiet]

theorem endRecord_of_quiet (ch : Option Channel) {p : Levels} (h : Quiet p) : endRecord ch p = FaultRec.zero := by
  rw [endRecord, endVerdict_eq_none.2 h]

/-- Where `DATA` floats, the post-checks are those of `endVerdict`. -/
theorem postReason_eq {s : State} (hdata : s.oe.data = false) (p : Levels) : postReason s p = endVerdict p := by
  simp [postReason, endVerdict, hdata]

section
variable {s : State} (cfg : Params) (ch : Option Channel) (rest : List Micro)

theorem run_postChecks_passes (hdata : s.oe.data = false) (h : Quiet (s.pinsAt 0)) :
    run (.postChecks ch :: rest) s = run rest s.sampled := by
  refine run_go ?_ rest
  rw [act, ← pinsAt_zero, postReason_eq hdata, endVerdict_eq_none.2 h]
  rfl

theorem run_postChecks_fails (hdata : s.oe.data = false) (h : ¬Quiet (s.pinsAt 0)) :
    run (.postChecks ch :: rest) s = s.sampled.fail (endRecord ch (s.pinsAt 0)) := by
  obtain ⟨r, hr⟩ := Option.ne_none_iff_exists'.1 (mt endVerdict_eq_none.1 h)
  refine run_stop ?_ rest
  rw [act, ← pinsAt_zero, postReason_eq hdata, endRecord, hr]
  cases ch <;> rfl

/-- The post-checks as the last statement of a command: it completes with their verdict. -/
theorem run_postChecks_last (hdata : s.oe.data = false) (hacc : s.stateAtAccept ≠ .fault) :
    run [.postChecks ch] s = { s.complete with
      err := (endVerdict (s.pinsAt 0)).isSome
      fault := endRecord ch (s.pinsAt 0)
      draws := s.draws.drop 1
      drawCount := s.drawCount + 1 } := by
  rw [List.drop_one]
  by_cases h : Quiet (s.pinsAt 0)
  · rw [run_postChecks_passes ch [] hdata h, run_nil, State.ok_outside_fault (s := s.sampled) hacc,
      endRecord_of_quiet ch h, endVerdict_eq_none.2 h]
    rfl
  · rw [run_postChecks_fails ch [] hdata h, State.fail_outside_fault (s := s.sampled) hacc,
      Option.isSome_iff_ne_none.2 (mt endVerdict_eq_none.1 h)]
    rfl

/-- `end` within its first instant: chip-select is de-asserted, and `DATA` is still driven if it was (R143). -/
def State.csHigh (s : State) : State :=
  { s with
    oe := ⟨true, true, s.oe.data⟩
    out := idleOut
    trace := [⟨s.time, .out .data false⟩, ⟨s.time, .oe .clk true⟩, ⟨s.time, .out .clk false⟩, ⟨s.time, .oe .cs true⟩,
      ⟨s.time, .out .cs true⟩] ++ s.trace }

/-- The end of a frame, where the post-checks are made (R143). -/
def State.frameEnded (s : State) : State :=
  { s with
    state := .idle
    oe := idleOe
    out := idleOut
    time := s.time + s.cfg.tHalf
    trace := (endEvents s.cfg.tHalf s.time).reverse ++ s.trace }

theorem State.BetweenWaits.csHigh (hs : s.BetweenWaits) : s.csHigh.BetweenWaits :=
  ⟨hs.rst, hs.busy, hs.waitCnt, hs.todo⟩

theorem run_endOps (h : s.state = .idle ∨ s.state = .inFrame) : run (endOps cfg ch ++ rest) s =
    run (.wait cfg.tHalf :: .setOe .data false :: .setState .idle :: .postChecks ch :: rest) s.csHigh := by
  have hallowed : ¬(s.state ≠ .idle ∧ s.state ≠ .inFrame) := by tauto
  exact run_go (t := s) (by rw [act, if_neg hallowed]) _

theorem endOps_runs (hs : s.BetweenWaits) (h : s.state = .idle ∨ s.state = .inFrame) :
    ticks s.cfg.tHalf (run (endOps s.cfg ch ++ rest) s) = run (.postChecks ch :: rest) s.frameEnded := by
  have hpass : Passes [.wait s.cfg.tHalf, .setOe .data false, .setState .idle] s.cfg.tHalf s.csHigh s.frameEnded :=
    .wait hs.csHigh (.go rfl (.go rfl (.done (by rw [setOe_eq]; rfl))))
  rw [run_endOps _ _ _ h]
  exact hpass _

end

theorem run_endOps_waits {cfg : Params} (hT : cfg.tHalf ≠ 0) (ch : Option Channel) {s : State}
    (h : s.state = .idle ∨ s.state = .inFrame) : run (endOps cfg ch) s =
      { s.csHigh with waitCnt := cfg.tHalf, todo := [.setOe .data false, .setState .idle, .postChecks ch] } := by
  have hrun := run_endOps cfg ch [] h
  rw [List.append_nil] at hrun
  rw [hrun, run_wait _ hT]

/-- The state after a `T_END` accepted in `s` (R143). -/
def State.afterEnd (s : State) : State :=
  { s.atRest s.state with
    state := .idle
    oe := idleOe
    out := idleOut
    err := (endVerdict (s.pinsAt 0)).isSome
    fault := endRecord none (s.pinsAt 0)
    time := s.time + s.cfg.tHalf
    trace := (endEvents s.cfg.tHalf s.time).reverse ++ s.trace
    draws := s.draws.drop 1
    drawCount := s.drawCount + 1 }

section
variable {s : State} (h : s.state = .idle ∨ s.state = .inFrame)
include h

theorem exec_tEnd : exec .tEnd s = .next (run (endOps s.cfg none) s.accepted) :=
  exec_outside_fault ⟨_, rfl⟩ (by obtain h | h := h <;> rw [h] <;> nofun) rfl

theorem ticks_tEnd (hr : s.rst = false) :
    ticks s.cfg.tHalf (run (endOps s.cfg none) s.accepted) = s.afterEnd := by
  have hnf : s.state ≠ .fault := by obtain h | h := h <;> rw [h] <;> nofun
  have hend := endOps_runs none [] (s := s.accepted) ⟨hr, rfl, rfl, rfl⟩ h
  rw [List.append_nil, run_postChecks_last none rfl hnf] at hend
  exact hend

end

/-- Settles O36: the one wait of `end` stands after its assignments to `CS` and `CLK`, and before `DATA` floats. -/
theorem endReturnsToTheIdleConfiguration : Obligations.EndReturnsToTheIdleConfiguration := by
  intro s hr h
  have hend := ticks_tEnd h hr
  refine ⟨_, exec_tEnd h, ?_, fun hT => ?_, hend⟩
  · by_cases hT : s.cfg.tHalf = 0
    · rw [hT] at hend
      exact congrArg State.out hend
    · rw [run_endOps_waits (s := s.accepted) hT none h]
      rfl
  · rw [run_endOps_waits (s := s.accepted) (Nat.one_le_iff_ne_zero.1 hT) none h]
    rfl

/-- Settles O37: the gate of R229 passes, and `end` does not. -/
theorem endNeedsIdleOrInFrame : Obligations.EndNeedsIdleOrInFrame := by
  intro s hs
  have hnf : s.state ≠ .fault := by rw [hs]; nofun
  have hact : act (.endAllowed none) s.accepted = .stop (.precondition .state none) s.accepted :=
    if_pos (by rw [State.accepted_state, hs]; exact ⟨nofun, nofun⟩)
  rw [exec_outside_fault ⟨_, rfl⟩ hnf rfl, endOps, run_stop hact, accepted_fail_precondition hnf]

/-- From the idle configuration `end` changes no bit of the line register, at any tick (R144). -/
theorem ticks_tEnd_idle_lines {s : State} (h : s.state = .idle) (hr : s.rst = false) (hoe : s.oe = idleOe) (k : Nat) :
    (ticks k (run (endOps s.cfg none) s.accepted)).oe = idleOe ∧
      (ticks k (run (endOps s.cfg none) s.accepted)).out = idleOut := by
  by_cases hk : k < s.cfg.tHalf
  · rw [run_endOps_waits (s := s.accepted) (by omega) none (.inl h),
      ticks_within_wait (s := { s.accepted.csHigh with waitCnt := s.cfg.tHalf, todo := _ }) hr rfl hk]
    exact ⟨by simp [State.csHigh, hoe, idleOe], rfl⟩
  · obtain ⟨j, rfl⟩ := Nat.exists_eq_add_of_le (Nat.le_of_not_lt hk)
    rw [ticks_add, ticks_tEnd (.inl h) hr, ticks_idle (s := s.afterEnd) hr rfl]
    exact ⟨rfl, rfl⟩

/-- Settles O38: the second `T_END` is accepted in the idle configuration, where the first has led. -/
theorem endIsIdempotent : Obligations.EndIsIdempotent := by
  intro s hr h hfirst hsecond
  have hpass {u : State} (hu : Quiet (u.pinsAt 0)) : u.afterEnd.err = false := by
    rw [State.afterEnd, endVerdict_eq_none.2 hu]
    rfl
  have hpins : s.afterEnd.pinsAt 0 = s.pinsAt 1 := pinsAt_later (s := s) (k := 1) rfl rfl 0
  refine ⟨_, run (endOps s.cfg none) s.afterEnd.accepted, exec_tEnd h, ?_⟩
  rw [ticks_tEnd h hr]
  refine ⟨exec_tEnd (s := s.afterEnd) (.inl rfl), rfl, rfl, hpass hfirst,
    ticks_tEnd_idle_lines (s := s.afterEnd) rfl hr rfl, ?_⟩
  have hend := ticks_tEnd (s := s.afterEnd) (.inl rfl) hr
  exact (congrArg State.err hend).trans (hpass (hpins ▸ hsecond))

/-! ### The verdicts of the self-test -/

/-- Settles O39. -/
theorem selfTestVerdicts : Obligations.SelfTestVerdicts := by
  unfold Obligations.SelfTestVerdicts
  decide

end Sys2Proof.Machine
end

section
/-! SUPPORT. The self-test (R150 to R153): the test of one signal, of the signals in order, and the two ends of
`T_INIT`. -/

namespace Sys2Proof.Machine

/-! ### One signal -/

theorem setOe_true (sig : Signal) (s : State) : s.setOe sig true = { s with
    oe := s.oe.set sig true
    trace := ⟨s.time, .oe sig true⟩ :: s.trace
    contention := if sig = .data ∧ s.deviceDrives = true then s.time :: s.contention else s.contention } := by
  rw [setOe_eq]
  simp only [true_and]

theorem setOe_false (sig : Signal) (s : State) : s.setOe sig false = { s with
    oe := s.oe.set sig false
    trace := ⟨s.time, .oe sig false⟩ :: s.trace } := by
  rw [setOe_eq, if_neg (by simp)]

section
variable {s : State} (sig : Signal)

/-- The test of a signal where it has been driven high and then low, and not yet sampled low (R150). -/
def State.drivenLow (s : State) (sig : Signal) : State :=
  { s with
    oe := s.oe.set sig true
    out := s.out.set sig false
    stH := (s.pinsAt 0).get sig
    time := s.time + s.cfg.tHalf
    trace := [⟨s.time + s.cfg.tHalf, .out sig false⟩, ⟨s.time, .oe sig true⟩, ⟨s.time, .out sig true⟩] ++ s.trace
    contention := if sig = .data ∧ s.deviceDrives = true then s.time :: s.contention else s.contention
    draws := s.draws.drop 1
    drawCount := s.drawCount + 1 }

/-- The test of a signal where its verdict is due (R150). -/
def State.tested (s : State) (sig : Signal) : State :=
  { s with
    oe := s.oe.set sig false
    out := s.out.set sig false
    stH := (s.pinsAt 0).get sig
    stL := (s.pinsAt 1).get sig
    time := s.time + 2 * s.cfg.tHalf
    trace := (testEvents s.cfg.tHalf s.time sig).reverse ++ s.trace
    contention := if sig = .data ∧ s.deviceDrives = true then s.time :: s.contention else s.contention
    draws := s.draws.drop 2
    drawCount := s.drawCount + 2 }

theorem Levels.set_set (l : Levels) (v w : Bool) : (l.set sig v).set sig w = l.set sig w := by
  cases sig <;> rfl

theorem State.BetweenWaits.drivenLow (hs : s.BetweenWaits) : (s.drivenLow sig).BetweenWaits :=
  ⟨hs.rst, hs.busy, hs.waitCnt, hs.todo⟩

theorem State.BetweenWaits.tested (hs : s.BetweenWaits) : (s.tested sig).BetweenWaits :=
  ⟨hs.rst, hs.busy, hs.waitCnt, hs.todo⟩

theorem testSignal_drives (hs : s.BetweenWaits) :
    Passes [.setOut sig true, .setOe sig true, .wait s.cfg.tHalf, .sampleHigh sig, .setOut sig false] s.cfg.tHalf s
      (s.drivenLow sig) := by
  have hhigh := (hs.kept (setOut_kept sig true s)).kept (setOe_kept sig true _)
  refine .go rfl (.go rfl (.wait hhigh (.go rfl (.go rfl (.done ?_)))))
  rw [State.drivenLow, ← Levels.set_set sig s.out true false, pinsAt_zero, List.drop_one, setOe_true]
  rfl

theorem testSignal_samples (hs : s.BetweenWaits) :
    Passes [.wait s.cfg.tHalf, .sampleLow sig, .setOe sig false] s.cfg.tHalf (s.drivenLow sig) (s.tested sig) := by
  refine .wait (hs.drivenLow sig) (.go rfl (.go rfl (.done ?_)))
  have hpins : (s.drivenLow sig).pins = s.pinsAt 1 := by
    rw [← pinsAt_zero]
    exact pinsAt_later (k := 1) rfl rfl 0
  have htime : s.time + 2 * s.cfg.tHalf = s.time + s.cfg.tHalf + s.cfg.tHalf := by ring
  rw [State.tested, ← Levels.set_set sig s.oe true false, setOe_false, testEvents, htime, ← hpins, ← List.tail_drop]
  rfl

/-- A signal's test runs in two half-periods, up to its verdict. -/
theorem testSignal_runs (hs : s.BetweenWaits) (rest : List Micro) :
    ticks (2 * s.cfg.tHalf) (run (testSignal s.cfg sig ++ rest) s) = run (.judge sig :: rest) (s.tested sig) := by
  rw [Nat.two_mul]
  exact (testSignal_drives sig hs).append (testSignal_samples sig hs) (.judge sig :: rest)

/-- What the self-test samples is what R151 calls PASS. -/
abbrev State.Wired (s : State) (sig : Signal) (k : Nat) : Prop :=
  (s.pinsAt k).get sig = true ∧ (s.pinsAt (k + 1)).get sig = false

theorem testSignal_passes (hs : s.BetweenWaits) (h : s.Wired sig 0) :
    Passes (testSignal s.cfg sig) (2 * s.cfg.tHalf) s (s.tested sig) := by
  intro rest
  rw [testSignal_runs sig hs]
  refine run_go ?_ rest
  rw [act, judge, State.tested, h.1, h.2]
  rfl

theorem run_judge_fails {code : FaultCode} (h : classify s.stH s.stL = some code) (rest : List Micro) :
    run (.judge sig :: rest) s =
      ({ s with stRec := ⟨code, sig⟩, state := .fault } : State).fail (StRec.record ⟨code, sig⟩) :=
  run_stop (by rw [act, judge, h]) rest

end

/-! ### The signals in order -/

/-- The state after the tests of some signals. -/
def State.testedAll (s : State) (sigs : List Signal) : State := sigs.foldl State.tested s

theorem State.testedAll_cons (s : State) (sig : Signal) (sigs : List Signal) :
    s.testedAll (sig :: sigs) = (s.tested sig).testedAll sigs := rfl

theorem State.BetweenWaits.testedAll {s : State} (hs : s.BetweenWaits) (sigs : List Signal) :
    (s.testedAll sigs).BetweenWaits := by
  induction sigs generalizing s with
  | nil => exact hs
  | cons sig sigs ih => exact ih (hs.tested sig)

theorem State.testedAll_cfg (s : State) (sigs : List Signal) : (s.testedAll sigs).cfg = s.cfg := by
  induction sigs generalizing s with
  | nil => rfl
  | cons sig sigs ih => exact ih (s.tested sig)

theorem State.tested_pinsAt (s : State) (sig : Signal) (j : Nat) : (s.tested sig).pinsAt j = s.pinsAt (2 + j) :=
  pinsAt_later rfl rfl j

theorem State.testedAll_pinsAt (s : State) (sigs : List Signal) (j : Nat) :
    (s.testedAll sigs).pinsAt j = s.pinsAt (2 * sigs.length + j) := by
  induction sigs generalizing s with
  | nil => rw [List.length_nil, Nat.mul_zero, Nat.zero_add]; rfl
  | cons sig sigs ih =>
    rw [State.testedAll_cons, ih, State.tested_pinsAt, List.length_cons]
    congr 1
    omega

/-- Where each signal in turn is wired, all tests pass. -/
theorem tests_pass {s : State} (hs : s.BetweenWaits) {sigs : List Signal}
    (h : ∀ i sig, sigs[i]? = some sig → s.Wired sig (2 * i)) :
    Passes (sigs.flatMap (testSignal s.cfg)) (2 * sigs.length * s.cfg.tHalf) s (s.testedAll sigs) := by
  induction sigs generalizing s with
  | nil => rw [List.length_nil, Nat.mul_zero, Nat.zero_mul]; exact .done rfl
  | cons sig sigs ih =>
    have htail : ∀ i sig', sigs[i]? = some sig' → (s.tested sig).Wired sig' (2 * i) := by
      intro i sig' hi
      have hi' := h (i + 1) sig' hi
      have hindex : 2 * (i + 1) = 2 + 2 * i := by ring
      rw [hindex] at hi'
      rw [State.Wired, State.tested_pinsAt, State.tested_pinsAt]
      exact hi'
    have hticks : 2 * (sigs.length + 1) * s.cfg.tHalf = 2 * s.cfg.tHalf + 2 * sigs.length * s.cfg.tHalf := by ring
    rw [List.flatMap_cons, List.length_cons, hticks]
    exact (testSignal_passes sig hs (h 0 sig rfl)).append (ih (hs.tested sig) htail)

/-! ### `T_INIT` -/

/-- The statements that release the lines (R150). -/
def releaseOps : List Micro :=
  [.setState .uninitialized, .setOe .cs false, .setOe .clk false, .setOe .data false]

/-- The lines released for the self-test (R150). -/
def State.released (s : State) : State :=
  { s with
    state := .uninitialized
    oe := ⟨false, false, false⟩
    trace := (releaseEvents s.time).reverse ++ s.trace }

theorem released_betweenWaits {s : State} (hr : s.rst = false) : s.accepted.released.BetweenWaits :=
  ⟨hr, rfl, rfl, rfl⟩

theorem release_passes (s : State) : Passes releaseOps 0 s s.released :=
  .go rfl (.go rfl (.go rfl (.go rfl (.done (by rw [setOe_false]; rfl)))))

/-- The signals tested before one (R150). -/
def signalsBefore : Signal → List Signal
  | .cs => []
  | .clk => [.cs]
  | .data => [.cs, .clk]

theorem length_signalsBefore (sig : Signal) : (signalsBefore sig).length = (signalBits sig).toNat := by
  cases sig <;> rfl

theorem index_signalsBefore {sig sig' : Signal} {i : Nat} (h : (signalsBefore sig)[i]? = some sig') :
    (signalBits sig').toNat = i ∧ i < (signalBits sig).toNat := by
  have hi : i < (signalsBefore sig).length := (List.getElem?_eq_some_iff.1 h).1
  refine ⟨?_, length_signalsBefore sig ▸ hi⟩
  have htwo : (signalsBefore sig).length ≤ 2 := by cases sig <;> decide
  have hi : i < 2 := by omega
  interval_cases i <;> cases sig <;> cases h <;> rfl

/-- `T_INIT` up to a signal's test. -/
theorem tInitOps_eq (cfg : Params) (sig : Signal) : ∃ rest, tInitOps cfg =
    gated (releaseOps ++ ((signalsBefore sig).flatMap (testSignal cfg) ++ (testSignal cfg sig ++ rest))) := by
  cases sig <;> exact ⟨_, rfl⟩

/-- The state in which a `T_INIT` accepted in `s` judges a signal, all before it having passed. -/
def State.judged (s : State) (sig : Signal) : State :=
  { s.accepted with
    state := .uninitialized
    oe := ⟨false, false, false⟩
    out := (testedSignals sig).foldl (fun l sig' => l.set sig' false) s.out
    stH := (s.pinsAt (2 * (signalBits sig).toNat)).get sig
    stL := (s.pinsAt (2 * (signalBits sig).toNat + 1)).get sig
    time := s.time + 2 * ((signalBits sig).toNat + 1) * s.cfg.tHalf
    trace := (releaseEvents s.time ++ (testedSignals sig).flatMap fun sig' =>
      testEvents s.cfg.tHalf (s.time + 2 * (signalBits sig').toNat * s.cfg.tHalf) sig').reverse ++ s.trace
    contention :=
      if sig = .data ∧ s.deviceDrives = true then (s.time + 4 * s.cfg.tHalf) :: s.contention else s.contention
    draws := s.draws.drop (2 * ((signalBits sig).toNat + 1))
    drawCount := s.drawCount + 2 * ((signalBits sig).toNat + 1) }

theorem tested_eq_judged (s : State) (sig : Signal) :
    (s.accepted.released.testedAll (signalsBefore sig)).tested sig = s.judged sig := by
  have hpins (j : Nat) : (s.accepted.released.testedAll (signalsBefore sig)).pinsAt j =
      s.pinsAt (2 * (signalBits sig).toNat + j) := by
    rw [State.testedAll_pinsAt, length_signalsBefore]
    rfl
  have hfour : s.time + 2 * s.cfg.tHalf + 2 * s.cfg.tHalf = s.time + 4 * s.cfg.tHalf := by ring
  have hsix : s.time + 4 * s.cfg.tHalf + 2 * s.cfg.tHalf = s.time + 6 * s.cfg.tHalf := by ring
  rw [State.tested, hpins, hpins]
  cases sig <;>
    simp [State.judged, State.testedAll, signalsBefore, State.tested, State.released, testedSignals, signalBits,
      Levels.set, hfour, hsix]

section
variable {s : State} {sig : Signal} (hr : s.rst = false)
  (hbefore : ∀ sig', (signalBits sig').toNat < (signalBits sig).toNat → s.Wired sig' (2 * (signalBits sig').toNat))
include hr hbefore

/-- Where the signals before one pass, `T_INIT` reaches the test of that one. -/
theorem tInit_reaches : Passes (releaseOps ++ (signalsBefore sig).flatMap (testSignal s.cfg))
    (2 * (signalBits sig).toNat * s.cfg.tHalf) s.accepted (s.accepted.released.testedAll (signalsBefore sig)) := by
  have hpass := tests_pass (released_betweenWaits hr) (sigs := signalsBefore sig) fun i sig' hi => by
    obtain ⟨hindex, hlt⟩ := index_signalsBefore hi
    subst hindex
    exact hbefore sig' hlt
  rw [length_signalsBefore] at hpass
  have hreach := (release_passes s.accepted).append hpass
  rwa [Nat.zero_add] at hreach

/-- It then judges that signal two half-periods later, and is busy until then. -/
theorem tInit_judges (hnf : s.state ≠ .fault) {ops : List Micro}
    (hops : tInitOps s.cfg =
      gated (releaseOps ++ ((signalsBefore sig).flatMap (testSignal s.cfg) ++ (testSignal s.cfg sig ++ ops)))) :
    ∃ t, exec .tInit s = .next t ∧
      (∀ k, k < 2 * ((signalBits sig).toNat + 1) * s.cfg.tHalf → (ticks k t).busy = true) ∧
      ticks (2 * ((signalBits sig).toNat + 1) * s.cfg.tHalf) t = run (.judge sig :: ops) (s.judged sig) := by
  have hreach := tInit_reaches hr hbefore
  have hs := (released_betweenWaits hr).testedAll (signalsBefore sig)
  have hcfg : (s.accepted.released.testedAll (signalsBefore sig)).cfg = s.cfg := State.testedAll_cfg _ _
  have hdrives := testSignal_drives sig hs
  have hruns := testSignal_runs sig hs ops
  rw [hcfg] at hdrives hruns
  have hsum : 2 * ((signalBits sig).toNat + 1) * s.cfg.tHalf =
      2 * (signalBits sig).toNat * s.cfg.tHalf + 2 * s.cfg.tHalf := by ring
  refine ⟨_, exec_outside_fault ⟨_, rfl⟩ hnf hops, fun k hk => ?_, ?_⟩
  · have hT : s.cfg.tHalf ≠ 0 := fun hT => by simp [hT] at hk
    have hbusy := (hreach.append hdrives).busy_until (hs.drivenLow sig) hT
      (.sampleLow sig :: .setOe sig false :: .judge sig :: ops) (k := k) (by omega)
    simp only [List.append_assoc] at hbusy
    exact hbusy
  · rw [← List.append_assoc, hsum, ticks_add, hreach, hruns, tested_eq_judged]

end

/-- Settles O41: the first bad signal's verdict fails, in the state `judged`. -/
theorem initFailsAtTheFirstBadSignal : Obligations.InitFailsAtTheFirstBadSignal := by
  intro s sig code hr hnf hbefore n high low hclass
  obtain ⟨ops, hops⟩ := tInitOps_eq s.cfg sig
  obtain ⟨t, hexec, hbusy, hend⟩ := tInit_judges hr hbefore hnf hops
  refine ⟨t, hexec, hbusy, hend.trans ?_⟩
  rw [run_judge_fails sig (s := s.judged sig) hclass, State.fail_outside_fault hnf]
  rfl

/-- The last statements of `T_INIT`, all in one instant (R150, R33). -/
theorem run_idleOps (s : State) : run [.setOut .cs true, .setOe .cs true, .setOut .clk false, .setOe .clk true,
      .setOut .data false, .setState .idle] s =
    ({ s with
      state := .idle
      oe := ⟨true, true, s.oe.data⟩
      out := idleOut
      trace := (idleEvents s.time).reverse ++ s.trace } : State).ok := rfl

/-- Settles O40: the last signal's verdict passes, and the idle configuration is set up in the same instant. -/
theorem initPassesOnGoodLines : Obligations.InitPassesOnGoodLines := by
  intro s hr hnf hgood
  obtain ⟨t, hexec, -, hend⟩ := tInit_judges (sig := .data) hr (fun sig' _ => hgood sig') hnf rfl
  refine ⟨t, hexec, hend.trans ?_⟩
  obtain ⟨hhigh, hlow⟩ := hgood .data
  have hpass : act (.judge .data) (s.judged .data) = .go (s.judged .data) := by
    rw [act, judge, State.judged, hhigh, hlow]
    rfl
  rw [run_go hpass, run_idleOps, State.ok_outside_fault hnf, State.judged, hhigh, hlow]
  simp [State.complete, State.atRest, testedSignals, signalBits, idleOe]

end Sys2Proof.Machine
end

section
/-! SUPPORT. Frames (R132, R134, R155 to R161): receiving a byte, and the whole frame of a write and of a read. -/

namespace Sys2Proof.Machine

/-! ### The cell of one received bit (R132) -/

/-- The state after the bit-in cell of bit `i`. -/
def State.afterInCell (i : BitVec 3) (s : State) : State :=
  { s with
    bitIdx := i
    out := s.out.set .clk false
    shift := setBit s.shift i (s.pinsAt 0).data
    time := s.time + 2 * s.cfg.tHalf
    trace := (inCellEvents s.cfg.tHalf s.time).reverse ++ s.trace
    draws := s.draws.drop 1
    drawCount := s.drawCount + 1 }

theorem bitIn_kept (i : BitVec 3) (s : State) : Kept s (bitIn i s) := by constructor <;> rfl

theorem bitInCell_passes {s : State} (hs : s.BetweenWaits) (i : BitVec 3) :
    Passes (bitInCell s.cfg i) (2 * s.cfg.tHalf) s (s.afterInCell i) := by
  have hhigh := ((hs.later s.cfg.tHalf).kept (setOut_kept .clk true _)).kept (bitIn_kept i _)
  have htime : s.time + 2 * s.cfg.tHalf = s.time + s.cfg.tHalf + s.cfg.tHalf := by ring
  rw [Nat.two_mul]
  refine .wait hs (.go rfl (.go rfl (.wait (n := 0) hhigh (.go rfl (.done ?_)))))
  rw [State.afterInCell, pinsAt_zero, List.drop_one, inCellEvents, htime]
  rfl

/-! ### The cells of a received byte (R134) -/

/-- The state after the bit-in cells of bits 7 down to 7 - `k`, from `r` = 0 on. -/
def State.bitsReceived (k : Nat) (s : State) : State :=
  { s with
    bitIdx := BitVec.ofNat 3 (7 - k)
    out := s.out.set .clk false
    shift := (List.range (k + 1)).foldl (fun b j => setBit b (BitVec.ofNat 3 (7 - j)) (s.pinsAt j).data) 0#8
    time := s.time + 2 * (k + 1) * s.cfg.tHalf
    trace := ((List.range (k + 1)).flatMap fun j =>
      inCellEvents s.cfg.tHalf (s.time + 2 * j * s.cfg.tHalf)).reverse ++ s.trace
    draws := s.draws.drop (k + 1)
    drawCount := s.drawCount + (k + 1) }

theorem State.BetweenWaits.bitsReceived {s : State} (h : s.BetweenWaits) (k : Nat) : (s.bitsReceived k).BetweenWaits :=
  ⟨h.rst, h.busy, h.waitCnt, h.todo⟩

theorem afterInCell_first (s : State) :
    ({ s with shift := 0#8 } : State).afterInCell (BitVec.ofNat 3 7) = s.bitsReceived 0 := by
  simp [State.afterInCell, State.bitsReceived]
  rfl

theorem afterInCell_next (k : Nat) (s : State) :
    (s.bitsReceived k).afterInCell (BitVec.ofNat 3 (7 - (k + 1))) = s.bitsReceived (k + 1) := by
  have hpins : (s.bitsReceived k).pinsAt 0 = s.pinsAt (k + 1) := pinsAt_later rfl rfl 0
  have htime : s.time + 2 * (k + 1) * s.cfg.tHalf + 2 * s.cfg.tHalf = s.time + 2 * (k + 1 + 1) * s.cfg.tHalf := by ring
  rw [State.afterInCell, hpins]
  simp [State.bitsReceived, Levels.set, List.range_succ, htime]
  exact Nat.add_assoc ..

theorem bits_arrive {s : State} (hs : s.BetweenWaits) (k : Nat) :
    Passes ((List.range (k + 1)).flatMap fun j => bitInCell s.cfg (BitVec.ofNat 3 (7 - j)))
      (2 * (k + 1) * s.cfg.tHalf) { s with shift := 0#8 } (s.bitsReceived k) := by
  induction k with
  | zero =>
    rw [← afterInCell_first]
    exact bitInCell_passes (s := { s with shift := 0#8 }) ⟨hs.rst, hs.busy, hs.waitCnt, hs.todo⟩ (BitVec.ofNat 3 7)
  | succ k ih =>
    have hlast := bitInCell_passes (hs.bitsReceived k) (BitVec.ofNat 3 (7 - (k + 1)))
    rw [afterInCell_next] at hlast
    have hticks : 2 * (k + 1 + 1) * s.cfg.tHalf = 2 * (k + 1) * s.cfg.tHalf + 2 * s.cfg.tHalf := by ring
    rw [List.range_succ, List.flatMap_append, List.flatMap_singleton, hticks]
    exact ih.append hlast

/-- A byte comes in most-significant bit first, in sixteen half-periods (R134). -/
theorem recvByte_passes {s : State} (hs : s.BetweenWaits) :
    Passes (recvByte s.cfg) (16 * s.cfg.tHalf) s (s.bitsReceived 7) := by
  rw [recvByte, bitsDown_eq_map, List.flatMap_map]
  exact .go rfl (bits_arrive hs 7)

/-- Bits set from bit 7 down make the byte. -/
theorem setBits_eq : ∀ b7 b6 b5 b4 b3 b2 b1 b0 : Bool,
    setBit (setBit (setBit (setBit (setBit (setBit (setBit (setBit 0#8 7#3 b7) 6#3 b6) 5#3 b5) 4#3 b4) 3#3 b3) 2#3 b2)
      1#3 b1) 0#3 b0 =
    BitVec.ofBool b7 ++ BitVec.ofBool b6 ++ BitVec.ofBool b5 ++ BitVec.ofBool b4 ++ BitVec.ofBool b3 ++
      BitVec.ofBool b2 ++ BitVec.ofBool b1 ++ BitVec.ofBool b0 := by
  decide

/-- The samples set bit after bit are the byte (R65). -/
theorem foldl_setBit_eq_byteOf (f : Nat → Bool) :
    (List.range 8).foldl (fun b j => setBit b (BitVec.ofNat 3 (7 - j)) (f j)) 0#8 = byteOf f :=
  setBits_eq (f 0) (f 1) (f 2) (f 3) (f 4) (f 5) (f 6) (f 7)

/-! ### Event tables -/

/-- Two bytes in a row are sixteen cells in a row, and the first leaves `DATA` driven (R156). -/
theorem sentEvents_append (cfg : Params) (t : Nat) (enable : Bool) (a b : Byte) :
    sentEvents cfg t enable (a ++ b) = sentEvents cfg t enable a ++ sentEvents cfg (t + 16 * cfg.tHalf) false b := by
  unfold sentEvents
  rw [List.range_add, List.flatMap_append, List.flatMap_map]
  congr 1
  · refine List.flatMap_congr fun k hk => ?_
    have hk : k < 8 := List.mem_range.1 hk
    rw [BitVec.getMsbD_append, if_neg (by omega)]
  · refine List.flatMap_congr fun k hk => ?_
    have htime : t + 2 * (8 + k) * cfg.tHalf = t + 16 * cfg.tHalf + 2 * k * cfg.tHalf := by ring
    have hlater : (8 + k == 0) = false := beq_eq_false_iff_ne.2 (by omega)
    rw [BitVec.getMsbD_append, if_pos (by omega), htime, hlater, Bool.and_false, Bool.false_and,
      Nat.add_sub_cancel_left]

/-- All eight cells of a byte (R133). -/
theorem bitsSent_seven (b : Byte) (s : State) : s.bitsSent b 7 = { s with
    shift := b
    bitIdx := 0#3
    oe := s.oe.set .data true
    out := ⟨s.out.cs, false, b.getMsbD 7 ^^ s.cfg.dataInvert⟩
    time := s.time + 16 * s.cfg.tHalf
    trace := (sentEvents s.cfg s.time (!s.oe.data) b).reverse ++ s.trace
    contention := if s.oe.data = false ∧ s.deviceDrives = true then s.time :: s.contention else s.contention } := rfl

/-! ### Whole frames -/

/-- The block where the post-checks of a whole frame are made, `d` ticks and `k` samples after its `start` in `s`, with
the byte `b` in `shift` and the events `evs` (R155, R160). -/
def State.ranFrame (s : State) (d k : Nat) (b : Byte) (evs : List Event) : State :=
  { s with
    state := .idle
    oe := idleOe
    out := idleOut
    shift := b
    bitIdx := 0#3
    time := s.time + d
    trace := evs.reverse ++ s.trace
    contention :=
      if s.oe.data = false ∧ s.deviceDrives = true then (s.time + 2 * s.cfg.tHalf) :: s.contention else s.contention
    draws := s.draws.drop k
    drawCount := s.drawCount + k }

theorem sent_write_ended (s : State) (instr data : Byte) :
    ((s.opened.bitsSent instr 7).bitsSent data 7).frameEnded =
      s.ranFrame (writeTicks s.cfg) 1 data (writeEvents s.cfg s.time (!s.oe.data) instr data) := by
  have htime : s.time + 2 * s.cfg.tHalf + 16 * s.cfg.tHalf + 16 * s.cfg.tHalf = s.time + 34 * s.cfg.tHalf := by ring
  have hlast : s.time + 34 * s.cfg.tHalf + s.cfg.tHalf = s.time + 35 * s.cfg.tHalf := by ring
  rw [bitsSent_seven, bitsSent_seven]
  simp [State.frameEnded, State.ranFrame, State.opened, State.csLow, writeTicks, writeEvents, sentEvents_append,
    Levels.set, htime, hlast]

/-- The read turnaround: `DATA` floats after the settling delay (R160). -/
def State.turned (s : State) : State :=
  { s with
    oe := s.oe.set .data false
    time := s.time + s.cfg.tTurn
    trace := ⟨s.time + s.cfg.tTurn, .oe .data false⟩ :: s.trace }

theorem State.BetweenWaits.turned {s : State} (hs : s.BetweenWaits) : s.turned.BetweenWaits :=
  ⟨hs.rst, hs.busy, hs.waitCnt, hs.todo⟩

theorem turnaround_passes {s : State} (hs : s.BetweenWaits) :
    Passes [.wait s.cfg.tTurn, .setOe .data false] s.cfg.tTurn s s.turned :=
  .wait hs (.go rfl (.done (by rw [setOe_false]; rfl)))

/-- A byte read is staged for `RESULT.RDATA` (R160). -/
def State.staged (b : Byte) (s : State) : State := { s with stagedRdata := some b }

theorem stageRdata_passes (s : State) : Passes [.stageRdata] 0 s (s.staged s.shift) := .go rfl (.done rfl)

/-- All eight cells of a received byte (R134, R65). -/
theorem bitsReceived_seven (s : State) : s.bitsReceived 7 = { s with
    shift := s.byteAt 0
    bitIdx := 0#3
    out := s.out.set .clk false
    time := s.time + 16 * s.cfg.tHalf
    trace := ((List.range 8).flatMap fun j =>
      inCellEvents s.cfg.tHalf (s.time + 2 * j * s.cfg.tHalf)).reverse ++ s.trace
    draws := s.draws.drop 8
    drawCount := s.drawCount + 8 } := by
  have hbyte : s.byteAt 0 = byteOf fun j => (s.pinsAt j).data := by simp only [State.byteAt, Nat.zero_add]
  rw [hbyte, ← foldl_setBit_eq_byteOf]
  rfl

/-- The samples of a read come after the one of `start`. -/
theorem turned_byteAt (s : State) (instr : Byte) : (s.opened.bitsSent instr 7).turned.byteAt 0 = s.byteAt 1 := by
  have hpins (j : Nat) : (s.opened.bitsSent instr 7).turned.pinsAt j = s.pinsAt (1 + j) := pinsAt_later rfl rfl j
  simp only [State.byteAt, hpins, Nat.zero_add]

theorem received_shift (s : State) (instr : Byte) :
    ((s.opened.bitsSent instr 7).turned.bitsReceived 7).shift = s.byteAt 1 := by
  rw [bitsReceived_seven]
  exact turned_byteAt s instr

theorem received_read_ended (s : State) (instr : Byte) :
    (((s.opened.bitsSent instr 7).turned.bitsReceived 7).staged (s.byteAt 1)).frameEnded =
      (s.ranFrame (readTicks s.cfg) 9 (s.byteAt 1)
        (readEvents s.cfg s.time (!s.oe.data) instr)).staged (s.byteAt 1) := by
  have hturn : s.time + 2 * s.cfg.tHalf + 16 * s.cfg.tHalf = s.time + 18 * s.cfg.tHalf := by ring
  have hin : s.time + 18 * s.cfg.tHalf + s.cfg.tTurn + 16 * s.cfg.tHalf = s.time + 34 * s.cfg.tHalf + s.cfg.tTurn := by
    ring
  have hlast : s.time + 34 * s.cfg.tHalf + s.cfg.tTurn + s.cfg.tHalf = s.time + (35 * s.cfg.tHalf + s.cfg.tTurn) := by
    ring
  rw [bitsReceived_seven, turned_byteAt, bitsSent_seven]
  simp [State.frameEnded, State.ranFrame, State.opened, State.csLow, State.staged, State.turned, readTicks, readEvents,
    Levels.set, hturn, hin, hlast]

section
variable {s : State} (hs : s.BetweenWaits) (h : CanStart s) (ch : Option Channel)
include hs h

theorem writeFrame_runs (instr data : Byte) (rest : List Micro) :
    ticks (writeTicks s.cfg) (run (writeFrame s.cfg ch instr data ++ rest) s) =
      run (.postChecks ch :: rest)
        (s.ranFrame (writeTicks s.cfg) 1 data (writeEvents s.cfg s.time (!s.oe.data) instr data)) := by
  have hbytes : Passes (sendByte s.cfg instr ++ sendByte s.cfg data) (16 * s.cfg.tHalf + 16 * s.cfg.tHalf) s.opened
      ((s.opened.bitsSent instr 7).bitsSent data 7) :=
    (sendByte_passes hs.opened instr).append (sendByte_passes (hs.opened.bitsSent instr 7) data)
  have hend := endOps_runs ch rest ((hs.opened.bitsSent instr 7).bitsSent data 7) (.inr rfl)
  have hticks : writeTicks s.cfg = 2 * s.cfg.tHalf + (16 * s.cfg.tHalf + 16 * s.cfg.tHalf) + s.cfg.tHalf := by
    unfold writeTicks; ring
  have hlist : writeFrame s.cfg ch instr data ++ rest =
      startOps s.cfg ch ++ (sendByte s.cfg instr ++ sendByte s.cfg data) ++ (endOps s.cfg ch ++ rest) := by
    simp only [writeFrame, List.append_assoc]
  rw [← sent_write_ended, hlist, hticks, ticks_add, (startOps_passes ch hs h).append hbytes]
  exact hend

theorem readFrame_runs (instr : Byte) (rest : List Micro) :
    ticks (readTicks s.cfg) (run (readFrame s.cfg ch instr ++ rest) s) = run (.postChecks ch :: rest)
      ((s.ranFrame (readTicks s.cfg) 9 (s.byteAt 1)
        (readEvents s.cfg s.time (!s.oe.data) instr)).staged (s.byteAt 1)) := by
  have hsent := hs.opened.bitsSent instr 7
  have hstage := stageRdata_passes ((s.opened.bitsSent instr 7).turned.bitsReceived 7)
  rw [received_shift] at hstage
  have hbyte : Passes
      (sendByte s.cfg instr ++ ([.wait s.cfg.tTurn, .setOe .data false] ++ (recvByte s.cfg ++ [.stageRdata])))
      (16 * s.cfg.tHalf + (s.cfg.tTurn + (16 * s.cfg.tHalf + 0))) s.opened
      (((s.opened.bitsSent instr 7).turned.bitsReceived 7).staged (s.byteAt 1)) :=
    (sendByte_passes hs.opened instr).append ((turnaround_passes hsent).append
      ((recvByte_passes hsent.turned).append hstage))
  have hend := endOps_runs ch rest (s := ((s.opened.bitsSent instr 7).turned.bitsReceived 7).staged (s.byteAt 1))
    ⟨hs.rst, hs.busy, hs.waitCnt, hs.todo⟩ (.inr rfl)
  have hticks : readTicks s.cfg =
      2 * s.cfg.tHalf + (16 * s.cfg.tHalf + (s.cfg.tTurn + (16 * s.cfg.tHalf + 0))) + s.cfg.tHalf := by
    unfold readTicks; ring
  have hlist : readFrame s.cfg ch instr ++ rest = startOps s.cfg ch ++
      (sendByte s.cfg instr ++ ([.wait s.cfg.tTurn, .setOe .data false] ++ (recvByte s.cfg ++ [.stageRdata]))) ++
      (endOps s.cfg ch ++ rest) := by
    simp only [readFrame, List.append_assoc]
  rw [← received_read_ended, hlist, hticks, ticks_add, (startOps_passes ch hs h).append hbyte]
  exact hend

end

/-- A frame in its first wait (R141). -/
theorem run_frame_waits {s : State} (h : CanStart s) (ch : Option Channel) (rest : List Micro) (hT : 1 ≤ s.cfg.tHalf)
    (hb : s.busy = true) : (run (startOps s.cfg ch ++ rest) s).busy = true ∧
      (run (startOps s.cfg ch ++ rest) s).state = .inFrame ∧ CsAsserted (run (startOps s.cfg ch ++ rest) s) := by
  rw [run_startOps_waits ch rest h hT]
  exact ⟨hb, rfl, h.2.1.1, rfl⟩

/-- A command that ends with the post-checks of a frame. -/
theorem ranFrame_completes {s : State} (hidle : s.state = .idle) (d k : Nat) (b : Byte) (evs : List Event) :
    run [.postChecks none] (s.accepted.ranFrame d k b evs) = s.afterFrame none d (k + 1) b evs := by
  have hnf : s.state ≠ .fault := by rw [hidle]; nofun
  have hpins : (s.accepted.ranFrame d k b evs).pinsAt 0 = s.pinsAt k := pinsAt_later rfl rfl 0
  rw [run_postChecks_last none rfl hnf, hpins]
  simp [State.ranFrame, State.afterFrame, State.complete, State.atRest, hidle, Nat.add_assoc]
  rfl

theorem ranFrame_staged_completes {s : State} (hidle : s.state = .idle) (d k : Nat) (b r : Byte) (evs : List Event) :
    run [.postChecks none] ((s.accepted.ranFrame d k b evs).staged r) =
      { s.afterFrame none d (k + 1) b evs with rdata := r } := by
  have hnf : s.state ≠ .fault := by rw [hidle]; nofun
  have hlast := ranFrame_completes hidle d k b evs
  rw [run_postChecks_last none rfl hnf] at hlast ⊢
  exact congrArg (fun u : State => { u with rdata := r }) hlast

/-- Settles O42: the frame is the whole command, so its post-checks complete it. -/
theorem writeRunsItsFrame : Obligations.WriteRunsItsFrame := by
  intro s instr data hr h
  have hs : s.accepted.BetweenWaits := ⟨hr, rfl, rfl, rfl⟩
  have hnf : s.state ≠ .fault := by rw [h.1]; nofun
  have hrun := writeFrame_runs (s := s.accepted) hs h none instr data []
  rw [List.append_nil] at hrun
  refine ⟨_, exec_outside_fault ⟨_, rfl⟩ hnf rfl, fun hT => ?_, hrun.trans (ranFrame_completes h.1 ..)⟩
  rw [writeFrame_eq]
  exact run_frame_waits (s := s.accepted) h none _ hT rfl

/-- Settles O43: as for a write, and the byte staged before `end` is committed whatever the post-checks say. -/
theorem readRunsItsFrame : Obligations.ReadRunsItsFrame := by
  intro s instr hr h
  have hs : s.accepted.BetweenWaits := ⟨hr, rfl, rfl, rfl⟩
  have hnf : s.state ≠ .fault := by rw [h.1]; nofun
  have hrun := readFrame_runs (s := s.accepted) hs h none instr []
  rw [List.append_nil] at hrun
  refine ⟨_, exec_outside_fault ⟨_, rfl⟩ hnf rfl, fun hT => ?_, hrun.trans (ranFrame_staged_completes h.1 ..)⟩
  rw [readFrame_eq]
  exact run_frame_waits (s := s.accepted) h none _ hT rfl

end Sys2Proof.Machine
end

section
/-! SUPPORT. The bring-up (R200 to R206): which events enable `DATA`, and the block at each frame of each channel. -/

namespace Sys2Proof.Machine

/-! ### The events that enable `DATA` -/

theorem dataEnables_cons {e : Event} (h : e.change ≠ .oe .data true) (evs : List Event) :
    dataEnables (e :: evs) = dataEnables evs := by
  simp [dataEnables, h]

theorem dataEnables_flatMap_nil {α : Type} {l : List α} {f : α → List Event} (h : ∀ x ∈ l, dataEnables (f x) = []) :
    dataEnables (l.flatMap f) = [] := by
  induction l with
  | nil => rfl
  | cons x l ih =>
    obtain ⟨hx, hl⟩ := List.forall_mem_cons.1 h
    rw [List.flatMap_cons, dataEnables_append, ih hl, hx, List.append_nil]

theorem dataEnables_outCell (T t : Nat) (v enable : Bool) :
    dataEnables (outCellEvents T t v enable) = if enable then [t] else [] := by
  cases enable <;> simp [dataEnables, outCellEvents]

/-- Of the cells of a byte only the first enables `DATA`, where it floated (R131). -/
theorem dataEnables_sent (cfg : Params) (t : Nat) (enable : Bool) (b : Byte) :
    dataEnables (sentEvents cfg t enable b) = if enable then [t] else [] := by
  rw [sentEvents, List.range_succ_eq_map, List.flatMap_cons, dataEnables_append, dataEnables_outCell,
    dataEnables_flatMap_nil]
  · simp
  · intro k hk
    obtain ⟨j, -, rfl⟩ := List.mem_map.1 hk
    rw [dataEnables_outCell]
    simp

theorem dataEnables_end (T t : Nat) : dataEnables (endEvents T t) = [] := by
  simp [dataEnables, endEvents]

theorem dataEnables_write (cfg : Params) (t : Nat) (enable : Bool) (instr data : Byte) :
    dataEnables (writeEvents cfg t enable instr data) = if enable then [t + 2 * cfg.tHalf] else [] := by
  rw [writeEvents, dataEnables_cons (by simp), dataEnables_append, sentEvents_append, dataEnables_append,
    dataEnables_end, dataEnables_sent, dataEnables_sent]
  simp

theorem dataEnables_read (cfg : Params) (t : Nat) (enable : Bool) (instr : Byte) :
    dataEnables (readEvents cfg t enable instr) = if enable then [t + 2 * cfg.tHalf] else [] := by
  have hin (u : Nat) : dataEnables (inCellEvents cfg.tHalf u) = [] := by simp [dataEnables, inCellEvents]
  rw [readEvents, dataEnables_cons (by simp), dataEnables_append, dataEnables_append, dataEnables_cons (by simp),
    dataEnables_end, dataEnables_sent, dataEnables_flatMap_nil fun j _ => hin _]
  simp

theorem dataEnables_select (evs : List Event) (t : Nat) (ch : Channel) :
    dataEnables (evs ++ [⟨t, .chsel ch⟩]) = dataEnables evs := by
  rw [dataEnables_append, dataEnables_cons (by simp)]
  rfl

theorem strobedBelow_succ {c : Nat} (hc : c < 8) (ready : BitVec 8) :
    setBit (setBit (strobedBelow c ready) (BitVec.ofNat 3 c) true) (BitVec.ofNat 3 c) false =
      strobedBelow (c + 1) ready := by
  revert ready
  interval_cases c <;> decide

/-! ### The statements of a bring-up -/

/-- The register of each access of a channel's bring-up (R200). -/
def accessAddr (cfg : Params) : Nat → Byte
  | 0 => cfg.addrHwRev
  | 1 => cfg.addrClkMode
  | 2 => cfg.addrCmrI
  | _ => cfg.addrCmrQ

/-- The frame of each of them: two reads, then two writes. -/
def frameOps (cfg : Params) (c : Channel) (f : Nat) : List Micro :=
  if f < 2 then readFrame cfg (some c) (readInstruction (accessAddr cfg f))
  else writeFrame cfg (some c) (writeInstruction (accessAddr cfg f)) cfg.cmrInit

/-- What R200 checks after each of them. -/
def checkOps (c : Channel) : Nat → List Micro
  | 0 => [.checkRev c]
  | 1 => [.checkRetime c]
  | _ => []

/-- What comes before each of them (R181). -/
def selectOps (c : Channel) : List Micro := [.requireIdle (some c), .setChsel c]

/-- An access of a channel's bring-up, with its check. -/
def accessBlock (cfg : Params) (c : Channel) (f : Nat) : List Micro := selectOps c ++ (frameOps cfg c f ++ checkOps c f)

/-- A channel's strobe (R203). -/
def strobeOps (cfg : Params) (c : Channel) : List Micro :=
  [.setChReady c true, .wait cfg.tStrobe, .setChReady c false]

theorem bringUp_eq (cfg : Params) (c : Channel) :
    bringUp cfg c = .setChIdx c :: ((List.range 4).flatMap (accessBlock cfg c) ++ strobeOps cfg c) := by
  simp [bringUp, deviceRead, deviceWrite, accessBlock, selectOps, frameOps, accessAddr, checkOps, strobeOps,
    List.range_succ]

/-- The statements before the first channel (R200, R202). -/
def resetOps (cfg : Params) : List Micro :=
  [.stageReady false, .requireIdle none, .setDacClkEn true, .setDacRst true, .wait cfg.tRst, .setDacRst false,
    .wait cfg.tRstRec]

/-- The statements up to the `start` of frame `f` of channel `c`. -/
def opsBefore (cfg : Params) (c f : Nat) : List Micro :=
  resetOps cfg ++ (channelsBelow c).flatMap (bringUp cfg) ++ [.setChIdx (BitVec.ofNat 3 c)] ++
    (List.range f).flatMap (accessBlock cfg (BitVec.ofNat 3 c)) ++ selectOps (BitVec.ofNat 3 c)

theorem dacInitOps_eq (cfg : Params) : dacInitOps cfg =
    gated (resetOps cfg ++ (channelsBelow cfg.nCh).flatMap (bringUp cfg) ++ [.stageReady true]) := rfl

/-- Each frame of each channel stands in `DAC_INIT` after `opsBefore`. -/
theorem dacInitOps_at {cfg : Params} {c f : Nat} (hc : c < cfg.nCh) (hf : f < 4) :
    ∃ rest, dacInitOps cfg = gated (opsBefore cfg c f ++ (frameOps cfg (BitVec.ofNat 3 c) f ++ rest)) := by
  obtain ⟨later, hchannels⟩ : ∃ later, channelsBelow cfg.nCh = channelsBelow c ++ BitVec.ofNat 3 c :: later := by
    obtain ⟨n, hn⟩ := Nat.exists_eq_add_of_lt hc
    rw [hn, Nat.add_assoc, channelsBelow, List.range_add, List.range_succ_eq_map, List.map_append]
    exact ⟨_, rfl⟩
  obtain ⟨frames, hframes⟩ : ∃ frames, List.range 4 = List.range f ++ f :: frames := by
    interval_cases f <;> exact ⟨_, rfl⟩
  refine ⟨checkOps (BitVec.ofNat 3 c) f ++ (frames.flatMap (accessBlock cfg (BitVec.ofNat 3 c)) ++
    (strobeOps cfg (BitVec.ofNat 3 c) ++ (later.flatMap (bringUp cfg) ++ [.stageReady true]))), ?_⟩
  rw [dacInitOps_eq, hchannels, List.flatMap_append, List.flatMap_cons, bringUp_eq, hframes, List.flatMap_append,
    List.flatMap_cons]
  simp only [opsBefore, accessBlock, List.append_assoc, List.cons_append, List.nil_append]

/-! ### The block at each frame -/

/-- The ticks of frame `f` of a channel. -/
def frameTicks (cfg : Params) (f : Nat) : Nat := if f < 2 then readTicks cfg else writeTicks cfg

theorem frameStart_succ (cfg : Params) {f : Nat} (hf : f < 4) :
    frameStart cfg (f + 1) = frameStart cfg f + frameTicks cfg f := by
  interval_cases f <;> simp [frameStart, frameTicks, channelTicks] <;> omega

/-- The tick, counted from the acceptance, at which frame `f` of channel `c` begins; for `f` = 4, its strobe. -/
def frameTick (cfg : Params) (c f : Nat) : Nat := channelStart cfg c + frameStart cfg f

/-- A `DAC_INIT` accepted in `s`, `d` ticks and `k` sampling instants later, where the first `f` frames of channel `c`
have passed, with the events `evs`. -/
def State.bringUpNow (s : State) (c f d k : Nat) (evs : List Event) : State :=
  { s.accepted with
    stagedRdata := some (s.bringUpRdata c f)
    stagedReady := some false
    oe := idleOe
    out := idleOut
    shift := s.bringUpShift c f
    bitIdx := 0#3
    chsel := BitVec.ofNat 3 c
    chIdx := BitVec.ofNat 3 c
    dacClkEn := true
    dacRst := false
    chReady := strobedBelow c s.chReady
    time := s.time + d
    trace := evs.reverse ++ s.trace
    contention := (if s.deviceDrives = true then dataEnables evs else []) ++ s.contention
    draws := s.draws.drop k
    drawCount := s.drawCount + k }

theorem bringUpNow_fails {s : State} (hidle : s.state = .idle) (c f d k : Nat) (evs : List Event) (r : FaultRec) :
    (s.bringUpNow c f d k evs).fail r = s.bringUpEnd c f d k evs (some r) := by
  have hacc : (s.bringUpNow c f d k evs).stateAtAccept ≠ .fault := by
    have hkept : (s.bringUpNow c f d k evs).stateAtAccept = s.state := rfl
    rw [hkept, hidle]
    nofun
  rw [State.fail_outside_fault hacc, State.bringUpEnd, ← hidle]
  rfl

/-- Frame `f` of channel `c` is done: its checks have passed. -/
def State.frameDone (s : State) (c f : Nat) : State :=
  s.bringUpNow c f (frameTick s.cfg c f) (24 * c + frameSample f) (bringUpEvents s.cfg s.time (!s.oe.data) c f)

/-- The block at the `start` of frame `f` of channel `c`; before the very first frame the lines may be any. -/
def State.frameReady (s : State) (c f : Nat) : State :=
  { s.bringUpNow c f (frameTick s.cfg c f) (24 * c + frameSample f)
      (bringUpEvents s.cfg s.time (!s.oe.data) c f ++ [⟨s.time + frameTick s.cfg c f, .chsel (BitVec.ofNat 3 c)⟩]) with
    oe := if c = 0 ∧ f = 0 then s.oe else idleOe
    out := if c = 0 ∧ f = 0 then s.out else idleOut
    shift := if c = 0 ∧ f = 0 then s.shift else s.bringUpShift c f
    bitIdx := if c = 0 ∧ f = 0 then s.bitIdx else 0#3
    stagedRdata := if c = 0 ∧ f = 0 then none else some (s.bringUpRdata c f) }

/-- Channel `c` is done: it has had its strobe. -/
def State.channelDone (s : State) (c : Nat) : State :=
  { s.frameDone (c + 1) 0 with chsel := BitVec.ofNat 3 c, chIdx := BitVec.ofNat 3 c }

theorem frameReady_later {s : State} {c f : Nat} (h : ¬(c = 0 ∧ f = 0)) : s.frameReady c f =
    s.bringUpNow c f (frameTick s.cfg c f) (24 * c + frameSample f)
      (bringUpEvents s.cfg s.time (!s.oe.data) c f ++ [⟨s.time + frameTick s.cfg c f, .chsel (BitVec.ofNat 3 c)⟩]) := by
  simp only [State.frameReady, if_neg h]
  rfl

/-- The frame adds its events to those of the bring-up (R200). -/
theorem bringUpEvents_frame (cfg : Params) (t : Nat) (enable : Bool) (c f : Nat) :
    bringUpEvents cfg t enable c (f + 1) = bringUpEvents cfg t enable c f ++
      frameEvents cfg (t + frameTick cfg c f) (enable || decide (0 < c)) (BitVec.ofNat 3 c) f := by
  rw [bringUpEvents, framesEvents_succ, ← List.append_assoc, ← bringUpEvents, frameTick, Nat.add_assoc]

section
variable {s : State} (c f : Nat)

theorem frameReady_pinsAt (j : Nat) : (s.frameReady c f).pinsAt j = s.pinsAt (24 * c + frameSample f + j) :=
  pinsAt_later rfl rfl j

theorem frameReady_byteAt (j : Nat) : (s.frameReady c f).byteAt j = s.byteAt (24 * c + frameSample f + j) := by
  simp only [State.byteAt, frameReady_pinsAt, Nat.add_assoc]

/-- `DATA` floats before every frame but the first. -/
theorem frameReady_floats : (!(s.frameReady c f).oe.data) = if f = 0 then !s.oe.data || decide (0 < c) else true := by
  cases f <;> cases c <;> simp [State.frameReady, idleOe]

/-- The lines before a frame (R33), where those before the first are ready. -/
theorem frameReady_linesReady (hlines : LinesReady s) : LinesReady (s.frameReady c f) := by
  by_cases hfirst : c = 0 ∧ f = 0
  · simp only [LinesReady, State.frameReady, if_pos hfirst]
    exact hlines
  · rw [frameReady_later hfirst]
    exact ⟨rfl, rfl, rfl, rfl, nofun⟩

theorem frameReady_canStart (hidle : s.state = .idle) (hlines : LinesReady s) (h : Quiet (s.pinsAtStart c f)) :
    CanStart (s.frameReady c f) :=
  ⟨hidle, frameReady_linesReady c f hlines, by rwa [frameReady_pinsAt]⟩

theorem frameEvents_read (cfg : Params) (t : Nat) (enable : Bool) (ch : Channel) (hf : f < 2) :
    frameEvents cfg t enable ch f =
      ⟨t, .chsel ch⟩ :: readEvents cfg t (if f = 0 then enable else true) (readInstruction (accessAddr cfg f)) := by
  rw [readInstruction_eq_or]
  interval_cases f <;> rfl

theorem frameEvents_write (cfg : Params) (t : Nat) (enable : Bool) (ch : Channel) (hf : ¬f < 2) (hf4 : f < 4) :
    frameEvents cfg t enable ch f =
      ⟨t, .chsel ch⟩ :: writeEvents cfg t true (writeInstruction (accessAddr cfg f)) cfg.cmrInit := by
  interval_cases f <;> rfl

/-- Where a frame leads: only `shift` and the byte staged depend on what it does. -/
theorem ranFrame_lands (hidle : s.state = .idle) (hf : f < 4) (k : Nat) (b : Byte) {evs : List Event}
    (hframe : frameEvents s.cfg (s.time + frameTick s.cfg c f) (!s.oe.data || decide (0 < c)) (BitVec.ofNat 3 c) f =
      ⟨s.time + frameTick s.cfg c f, .chsel (BitVec.ofNat 3 c)⟩ :: evs)
    (hevs : dataEnables evs = if (!(s.frameReady c f).oe.data) = true then
      [s.time + frameTick s.cfg c f + 2 * s.cfg.tHalf] else []) :
    (s.frameReady c f).ranFrame (frameTicks s.cfg f) k b evs =
      { s.bringUpNow c (f + 1) (frameTick s.cfg c (f + 1)) (24 * c + frameSample f + k)
          (bringUpEvents s.cfg s.time (!s.oe.data) c (f + 1)) with
        shift := b
        stagedRdata := (s.frameReady c f).stagedRdata } := by
  have htick : frameTick s.cfg c (f + 1) = frameTick s.cfg c f + frameTicks s.cfg f := by
    rw [frameTick, frameStart_succ _ hf, ← Nat.add_assoc]
    rfl
  have hcontention : (if (s.frameReady c f).oe.data = false ∧ (s.frameReady c f).deviceDrives = true then
      ((s.frameReady c f).time + 2 * (s.frameReady c f).cfg.tHalf) :: (s.frameReady c f).contention
      else (s.frameReady c f).contention) =
      (if s.deviceDrives = true then dataEnables (bringUpEvents s.cfg s.time (!s.oe.data) c (f + 1)) else []) ++
        s.contention := by
    rw [bringUpEvents_frame, hframe, dataEnables_append, dataEnables_cons (by simp), hevs]
    cases (s.frameReady c f).oe.data <;> cases hdrives : s.deviceDrives <;>
      simp [State.frameReady, State.bringUpNow, hdrives, dataEnables_select]
  rw [State.ranFrame, hcontention, bringUpEvents_frame, hframe, htick]
  simp [State.frameReady, State.bringUpNow, hidle, Nat.add_assoc]

end

/-- What the two reads leave in `shift` and stage, and the two writes. -/
theorem bringUp_bytes_read (s : State) (c : Nat) {f : Nat} (hf : f < 2) :
    s.bringUpShift c (f + 1) = s.byteAt (24 * c + frameSample f + 1) ∧
      s.bringUpRdata c (f + 1) = s.byteAt (24 * c + frameSample f + 1) := by
  interval_cases f <;> exact ⟨rfl, rfl⟩

theorem bringUp_bytes_write (s : State) (c : Nat) {f : Nat} (hf : ¬f < 2) :
    s.bringUpShift c (f + 1) = s.cfg.cmrInit ∧ s.bringUpRdata c (f + 1) = s.bringUpRdata c f := by
  obtain ⟨k, rfl⟩ := Nat.exists_eq_add_of_le' (Nat.le_of_not_lt hf)
  exact ⟨rfl, rfl⟩

/-- Each frame of a bring-up leads to its post-checks (R181, R200). -/
theorem frameOps_run {s : State} (hidle : s.state = .idle) (hlines : LinesReady s) {c f : Nat} (hf : f < 4)
    (hs : (s.frameReady c f).BetweenWaits) (h : Quiet (s.pinsAtStart c f)) (rest : List Micro) :
    ticks (frameTicks s.cfg f) (run (frameOps s.cfg (BitVec.ofNat 3 c) f ++ rest) (s.frameReady c f)) =
      run (.postChecks (some (BitVec.ofNat 3 c)) :: rest)
        (s.bringUpNow c (f + 1) (frameTick s.cfg c (f + 1)) (24 * c + frameSample (f + 1) - 1)
          (bringUpEvents s.cfg s.time (!s.oe.data) c (f + 1))) := by
  have hcan := frameReady_canStart c f hidle hlines h
  have hfloats := frameReady_floats (s := s) c f
  by_cases hread : f < 2
  · have hsample : 24 * c + frameSample (f + 1) - 1 = 24 * c + frameSample f + 9 := by interval_cases f <;> rfl
    have hrun := readFrame_runs hs hcan (some (BitVec.ofNat 3 c)) (readInstruction (accessAddr s.cfg f)) rest
    have hlands := ranFrame_lands c f hidle hf 9 ((s.frameReady c f).byteAt 1)
      (by rw [frameEvents_read _ _ _ _ _ hread, ← hfloats]) (dataEnables_read ..)
    obtain ⟨hshift, hrdata⟩ := bringUp_bytes_read s c hread
    rw [frameOps, if_pos hread, frameTicks, if_pos hread, hsample]
    rw [frameTicks, if_pos hread] at hlands
    refine hrun.trans (congrArg (run _) ((congrArg (State.staged _) hlands).trans ?_))
    rw [frameReady_byteAt, State.bringUpNow, hshift, hrdata]
    rfl
  · have hsample : 24 * c + frameSample (f + 1) - 1 = 24 * c + frameSample f + 1 := by interval_cases f <;> rfl
    have hrun := writeFrame_runs hs hcan (some (BitVec.ofNat 3 c)) (writeInstruction (accessAddr s.cfg f))
      s.cfg.cmrInit rest
    have hfloats : (!(s.frameReady c f).oe.data) = true := by rw [hfloats, if_neg (by omega)]
    have hlands := ranFrame_lands c f hidle hf 1 s.cfg.cmrInit
      (by rw [frameEvents_write _ _ _ _ _ hread hf, ← hfloats]) (dataEnables_write ..)
    obtain ⟨hshift, hrdata⟩ := bringUp_bytes_write s c hread
    have hstaged : (s.frameReady c f).stagedRdata = some (s.bringUpRdata c f) := by
      rw [frameReady_later (by omega)]
      rfl
    rw [frameOps, if_neg hread, frameTicks, if_neg hread, hsample]
    rw [frameTicks, if_neg hread] at hlands
    refine hrun.trans (congrArg (run _) (hlands.trans ?_))
    rw [hstaged, State.bringUpNow, hshift, hrdata]

end Sys2Proof.Machine
end

section
/-! SUPPORT. The bring-up, step by step: each of its parts leads from one of its states to the next (R200 to R206). -/

namespace Sys2Proof.Machine

/-! ### Events and outputs -/

theorem strobedBelow_zero (ready : BitVec 8) : strobedBelow 0 ready = ready := BitVec.and_allOnes

theorem bringUpNow_select (s : State) (c f d k : Nat) (evs : List Event) :
    (s.bringUpNow c f d k evs).setChsel (BitVec.ofNat 3 c) =
      s.bringUpNow c f d k (evs ++ [⟨s.time + d, .chsel (BitVec.ofNat 3 c)⟩]) := by
  rw [State.bringUpNow, State.bringUpNow, dataEnables_select, List.reverse_append]
  rfl

theorem bringUpNow_sampled (s : State) (c f d k : Nat) (evs : List Event) :
    (s.bringUpNow c f d k evs).sampled = s.bringUpNow c f d (k + 1) evs := by
  rw [State.bringUpNow, State.bringUpNow, ← List.tail_drop]
  rfl

theorem bringUpNow_pinsAt (s : State) (c f d k : Nat) (evs : List Event) (j : Nat) :
    (s.bringUpNow c f d k evs).pinsAt j = s.pinsAt (k + j) :=
  pinsAt_later rfl rfl j

/-- A channel's strobe ends its events (R203). -/
theorem bringUpEvents_strobe (cfg : Params) (t : Nat) (enable : Bool) (c : Nat) :
    bringUpEvents cfg t enable (c + 1) 0 = bringUpEvents cfg t enable c 4 ++
      [⟨t + frameTick cfg c 4, .chReady (BitVec.ofNat 3 c) true⟩,
        ⟨t + frameTick cfg c 4 + cfg.tStrobe, .chReady (BitVec.ofNat 3 c) false⟩] := by
  rw [bringUpEvents_succ, channelEvents, bringUpEvents, bringUpEvents, framesEvents_zero, List.append_nil, frameTick,
    ← Nat.add_assoc, ← List.append_assoc]
  rfl

/-! ### Before the first channel -/

/-- After the reset pulse (R200, R202). -/
def State.afterReset (s : State) : State :=
  { s.accepted with
    stagedReady := some false
    dacClkEn := true
    dacRst := false
    time := s.time + channelStart s.cfg 0
    trace := (bringUpEvents s.cfg s.time (!s.oe.data) 0 0).reverse ++ s.trace }

/-- Channel `c` begins. -/
def State.channelBegin (s : State) : Nat → State
  | 0 => s.afterReset
  | c + 1 => s.channelDone c

/-- Channel `c` is about to be selected for its frame `f`. -/
def State.frameBegin (s : State) (c : Nat) : Nat → State
  | 0 => { s.channelBegin c with chIdx := BitVec.ofNat 3 c }
  | f + 1 => s.frameDone c (f + 1)

/-- At the very first frame only the auxiliary outputs have moved, and `DAC_READY` is staged as 0. -/
theorem frameReady_first (s : State) : s.frameReady 0 0 = { s.accepted with
    stagedReady := some false
    chsel := 0#3
    chIdx := 0#3
    dacClkEn := true
    dacRst := false
    time := s.time + channelStart s.cfg 0
    trace := (bringUpEvents s.cfg s.time (!s.oe.data) 0 0 ++
      [Event.mk (s.time + channelStart s.cfg 0) (.chsel 0#3)]).reverse ++ s.trace } := by
  have hnone : dataEnables (bringUpEvents s.cfg s.time (!s.oe.data) 0 0) = [] := by
    simp [bringUpEvents, dataEnables]
  simp [State.frameReady, State.bringUpNow, dataEnables_select, hnone, strobedBelow_zero, frameTick, frameStart,
    frameSample]

section
variable {s : State} (hr : s.rst = false)

include hr in
theorem frameReady_betweenWaits (c f : Nat) : (s.frameReady c f).BetweenWaits := ⟨hr, rfl, rfl, rfl⟩

theorem channelStart_succ (cfg : Params) (c : Nat) :
    channelStart cfg (c + 1) = channelStart cfg c + (channelTicks cfg + cfg.tStrobe) := by
  unfold channelStart
  ring

variable (hidle : s.state = .idle)
include hidle

theorem channelBegin_state (c : Nat) : (s.channelBegin c).state = .idle := by
  cases c <;> exact hidle

theorem frameBegin_state (c f : Nat) : (s.frameBegin c f).state = .idle := by
  cases f
  case zero => exact channelBegin_state hidle c
  case succ => exact hidle

include hr in
theorem resetOps_passes : Passes (resetOps s.cfg) (channelStart s.cfg 0) s.accepted s.afterReset := by
  have hticks : channelStart s.cfg 0 = s.cfg.tRst + (s.cfg.tRstRec + 0) := by unfold channelStart; ring
  have hgate : act (.requireIdle none) { s.accepted with stagedReady := some false } =
      .go { s.accepted with stagedReady := some false } := if_neg (not_not.2 hidle)
  rw [hticks]
  refine .go rfl (.go hgate (.go rfl (.go rfl (.wait ⟨hr, rfl, rfl, rfl⟩ (.go rfl (.wait ⟨hr, rfl, rfl, rfl⟩
    (.done ?_)))))))
  rw [State.afterReset, hticks, Nat.add_zero, ← Nat.add_assoc]
  rfl

theorem selectOps_pass (c f : Nat) :
    Passes (selectOps (BitVec.ofNat 3 c)) 0 (s.frameBegin c f) (s.frameReady c f) := by
  have hgate : act (.requireIdle (some (BitVec.ofNat 3 c))) (s.frameBegin c f) = .go (s.frameBegin c f) :=
    if_neg (not_not.2 (frameBegin_state hidle c f))
  refine .go hgate (.go rfl (.done ?_))
  cases f with
  | succ f => rw [frameReady_later (by simp)]; exact bringUpNow_select ..
  | zero =>
    cases c with
    | succ c => rw [frameReady_later (by simp)]; exact bringUpNow_select s (c + 1) 0 ..
    | zero => rw [frameReady_first]; rfl

/-! ### One access -/

omit hidle in
/-- The check of the byte read passes where the frame does (R200, R204). -/
theorem checkOps_pass {c f : Nat} (h : FramePasses s c f) :
    Passes (checkOps (BitVec.ofNat 3 c) f) 0 (s.frameDone c (f + 1)) (s.frameDone c (f + 1)) := by
  obtain ⟨-, -, hrev, hretime⟩ := h
  match f with
  | 0 => exact .go (if_neg (not_not.2 (hrev rfl))) (.done rfl)
  | 1 => exact .go (if_neg (not_not.2 (hretime rfl))) (.done rfl)
  | _ + 2 => exact .done rfl

variable (hlines : LinesReady s)
include hr hlines

/-- A frame that passes its line checks (R140, R143). -/
theorem frameOps_pass {c f : Nat} (hf : f < 4) (hstart : Quiet (s.pinsAtStart c f)) (hend : Quiet (s.pinsAtEnd c f)) :
    Passes (frameOps s.cfg (BitVec.ofNat 3 c) f) (frameTicks s.cfg f) (s.frameReady c f) (s.frameDone c (f + 1)) := by
  intro rest
  have hsample : 24 * c + frameSample (f + 1) - 1 + 1 = 24 * c + frameSample (f + 1) := by
    interval_cases f <;> rfl
  rw [frameOps_run hidle hlines hf (frameReady_betweenWaits hr c f) hstart, run_postChecks_passes]
  · rw [bringUpNow_sampled, hsample]
    rfl
  · rfl
  · rwa [bringUpNow_pinsAt]

theorem accessBlock_passes {c f : Nat} (hf : f < 4) (h : FramePasses s c f) :
    Passes (accessBlock s.cfg (BitVec.ofNat 3 c) f) (frameTicks s.cfg f) (s.frameBegin c f)
      (s.frameBegin c (f + 1)) := by
  have ⟨hstart, hend, _⟩ := h
  have hframe := frameOps_pass hr hidle hlines hf hstart hend
  have hpass := (selectOps_pass hidle c f).append (hframe.append (checkOps_pass h))
  rwa [Nat.zero_add, Nat.add_zero] at hpass

/-- The first `f` accesses of a channel. -/
theorem accessBlocks_pass {c f : Nat} (hf : f ≤ 4) (h : ∀ f', f' < f → FramePasses s c f') :
    Passes ((List.range f).flatMap (accessBlock s.cfg (BitVec.ofNat 3 c))) (frameStart s.cfg f) (s.frameBegin c 0)
      (s.frameBegin c f) := by
  induction f with
  | zero => exact .done rfl
  | succ f ih =>
    rw [List.range_succ, List.flatMap_append, List.flatMap_singleton, frameStart_succ _ hf]
    exact (ih (by omega) fun f' hf' => h f' (by omega)).append (accessBlock_passes hr hidle hlines hf (h f (by omega)))

/-! ### One channel -/

omit hidle hlines in
/-- A channel whose four frames have passed gets its strobe (R203). -/
theorem strobeOps_pass {c : Nat} (hc : c < 8) :
    Passes (strobeOps s.cfg (BitVec.ofNat 3 c)) s.cfg.tStrobe (s.frameDone c 4) (s.channelDone c) := by
  refine .go rfl (.wait (n := 0) ⟨hr, rfl, rfl, rfl⟩ (.go rfl (.done ?_)))
  have htick : frameTick s.cfg (c + 1) 0 = frameTick s.cfg c 4 + s.cfg.tStrobe := by
    rw [frameTick, channelStart_succ, frameTick, ← Nat.add_assoc]
    rfl
  have hnone (t t' : Nat) (ch : Channel) (v v' : Bool) :
      dataEnables [⟨t, .chReady ch v⟩, ⟨t', .chReady ch v'⟩] = [] := by simp [dataEnables]
  simp [State.channelDone, State.frameDone, State.bringUpNow, State.setChReady, State.emit, htick, bringUpEvents_strobe,
    dataEnables_append, hnone, strobedBelow_succ hc, Nat.add_assoc]
  exact ⟨rfl, rfl, rfl, rfl⟩

omit hr hidle hlines in
theorem ChannelPasses.framePasses {c : Nat} (h : ChannelPasses s c) {f : Nat} (hf : f < 4) : FramePasses s c f := by
  obtain ⟨hquiet, hrev, hretime⟩ := h
  refine ⟨hquiet (frameSample f) ?_, ?_, fun _ => hrev, fun _ => hretime⟩
  · interval_cases f <;> decide
  · interval_cases f
    · exact hquiet 9 (by decide)
    · exact hquiet 19 (by decide)
    · exact hquiet 21 (by decide)
    · exact hquiet 23 (by decide)

theorem bringUp_passes {c : Nat} (hc : c < 8) (h : ChannelPasses s c) :
    Passes (bringUp s.cfg (BitVec.ofNat 3 c)) (channelTicks s.cfg + s.cfg.tStrobe) (s.channelBegin c)
      (s.channelBegin (c + 1)) := by
  have hframes := accessBlocks_pass hr hidle hlines (le_refl 4) fun f hf => h.framePasses hf
  rw [bringUp_eq]
  exact .go rfl (hframes.append (strobeOps_pass hr hc))

/-- The first `c` channels, after the reset pulse (R200). -/
theorem channels_pass {c : Nat} (hc : c ≤ 8) (h : ∀ c', c' < c → ChannelPasses s c') :
    Passes (resetOps s.cfg ++ (channelsBelow c).flatMap (bringUp s.cfg)) (channelStart s.cfg c) s.accepted
      (s.channelBegin c) := by
  induction c with
  | zero => rw [channelsBelow_zero, List.flatMap_nil, List.append_nil]; exact resetOps_passes hr hidle
  | succ c ih =>
    rw [channelsBelow_succ, List.flatMap_append, List.flatMap_singleton, channelStart_succ, ← List.append_assoc]
    exact (ih (by omega) fun c' hc' => h c' (by omega)).append (bringUp_passes hr hidle hlines hc (h c (by omega)))

/-- Where the channels and the frames before it pass, `DAC_INIT` reaches frame `f` of channel `c`. -/
theorem opsBefore_pass {c f : Nat} (hc : c ≤ 8) (hf : f ≤ 4) (hchannels : ∀ c', c' < c → ChannelPasses s c')
    (hframes : ∀ f', f' < f → FramePasses s c f') :
    Passes (opsBefore s.cfg c f) (frameTick s.cfg c f) s.accepted (s.frameReady c f) := by
  have hindex : Passes [.setChIdx (BitVec.ofNat 3 c)] 0 (s.channelBegin c) (s.frameBegin c 0) := .go rfl (.done rfl)
  exact (((channels_pass hr hidle hlines hc hchannels).append hindex).append
    (accessBlocks_pass hr hidle hlines hf hframes)).append (selectOps_pass hidle c f)

end

/-! ### Frames that fail -/

theorem frameOps_eq (cfg : Params) (c : Channel) (f : Nat) :
    ∃ rest, frameOps cfg c f = startOps cfg (some c) ++ rest := by
  unfold frameOps
  split
  · exact ⟨_, readFrame_eq ..⟩
  · exact ⟨_, writeFrame_eq ..⟩

section
variable {s : State} (hr : s.rst = false) (hidle : s.state = .idle) (hlines : LinesReady s) {c f : Nat}
  (hn : s.cfg.nCh ≤ 8) (hc : c < s.cfg.nCh) (hf : f < 4) (hchannels : ∀ c', c' < c → ChannelPasses s c')
  (hframes : ∀ f', f' < f → FramePasses s c f')
include hr hidle hlines hn hc hf hchannels hframes

theorem dacInit_reaches : ∃ t rest, exec .dacInit s = .next t ∧ ticks (frameTick s.cfg c f) t =
    run (frameOps s.cfg (BitVec.ofNat 3 c) f ++ rest) (s.frameReady c f) := by
  have hnf : s.state ≠ .fault := by rw [hidle]; nofun
  obtain ⟨rest, hops⟩ := dacInitOps_at hc hf
  exact ⟨_, rest, exec_outside_fault ⟨_, rfl⟩ hnf hops,
    opsBefore_pass hr hidle hlines (by omega) (by omega) hchannels hframes _⟩

/-- A post-check that does not hold ends the command (R143, R231). -/
theorem dacInit_fails_at_end (hstart : Quiet (s.pinsAtStart c f)) (hend : ¬Quiet (s.pinsAtEnd c f)) :
    ∃ t, exec .dacInit s = .next t ∧ ticks (channelStart s.cfg c + frameStart s.cfg (f + 1)) t =
      s.bringUpFails c f (endRecord (some (BitVec.ofNat 3 c)) (s.pinsAtEnd c f)) := by
  obtain ⟨t, rest, hexec, hreach⟩ := dacInit_reaches hr hidle hlines hn hc hf hchannels hframes
  have hsample : 24 * c + frameSample (f + 1) - 1 + 1 = 24 * c + frameSample (f + 1) := by
    interval_cases f <;> rfl
  refine ⟨t, hexec, ?_⟩
  rw [frameStart_succ _ hf, ← Nat.add_assoc, ← frameTick, ticks_add, hreach,
    frameOps_run hidle hlines hf (frameReady_betweenWaits hr c f) hstart, run_postChecks_fails, bringUpNow_sampled,
    hsample, bringUpNow_fails hidle, bringUpNow_pinsAt]
  · rfl
  · rfl
  · rwa [bringUpNow_pinsAt]

/-- So does a line check of `start`, once a frame has left the lines in the idle configuration (R140, R231). -/
theorem dacInit_fails_at_start (hstart : ¬Quiet (s.pinsAtStart c f)) (hlater : ¬(c = 0 ∧ f = 0)) :
    ∃ t, exec .dacInit s = .next t ∧ ticks (frameTick s.cfg c f) t =
      s.bringUpEnd c f (frameTick s.cfg c f) (24 * c + frameSample f + 1)
        (bringUpEvents s.cfg s.time (!s.oe.data) c f ++ [⟨s.time + frameTick s.cfg c f, .chsel (BitVec.ofNat 3 c)⟩])
        (some (.precondition (if (s.pinsAtStart c f).cs = false then .csActive else .clkHigh)
          (some (BitVec.ofNat 3 c)))) := by
  obtain ⟨t, rest, hexec, hreach⟩ := dacInit_reaches hr hidle hlines hn hc hf hchannels hframes
  obtain ⟨frame, hframe⟩ := frameOps_eq s.cfg (BitVec.ofNat 3 c) f
  have hfault : FirstLineFault (s.frameReady c f) ((s.frameReady c f).pinsAt 0)
      (if (s.pinsAtStart c f).cs = false then .csActive else .clkHigh) := by
    rw [frameReady_pinsAt]
    exact firstLineFault_of_ready (frameReady_linesReady c f hlines) hstart
  refine ⟨t, hexec, ?_⟩
  rw [hreach, hframe, List.append_assoc, run_startOps_fails (s := s.frameReady c f) _ _ _ hidle hfault,
    frameReady_later hlater,
    bringUpNow_sampled, bringUpNow_fails hidle]

end

/-- The very first frame is reached whatever the lines are (R200). -/
theorem opsBefore_first {s : State} (hr : s.rst = false) (hidle : s.state = .idle) :
    Passes (opsBefore s.cfg 0 0) (channelStart s.cfg 0) s.accepted (s.frameReady 0 0) := by
  have hindex : Passes [.setChIdx (BitVec.ofNat 3 0)] 0 (s.channelBegin 0) (s.frameBegin 0 0) := .go rfl (.done rfl)
  have hpass := ((resetOps_passes hr hidle).append hindex).append (selectOps_pass hidle 0 0)
  simpa [opsBefore] using hpass

theorem dacInit_fails_at_first_start {s : State} (hr : s.rst = false) (hidle : s.state = .idle) (hn : 1 ≤ s.cfg.nCh)
    {r : Reason} (h : FirstLineFault s (s.pinsAt 0) r) :
    ∃ t, exec .dacInit s = .next t ∧ ticks (channelStart s.cfg 0) t =
      (s.frameReady 0 0).sampled.fail (.precondition r (some 0#3)) := by
  have hnf : s.state ≠ .fault := by rw [hidle]; nofun
  obtain ⟨rest, hops⟩ := dacInitOps_at hn (f := 0) (by decide)
  obtain ⟨frame, hframe⟩ := frameOps_eq s.cfg (BitVec.ofNat 3 0) 0
  have hfault : FirstLineFault (s.frameReady 0 0) ((s.frameReady 0 0).pinsAt 0) r := by
    have hoe : (s.frameReady 0 0).oe = s.oe := rfl
    have hout : (s.frameReady 0 0).out = s.out := rfl
    rw [FirstLineFault, hoe, hout]
    exact h
  refine ⟨_, exec_outside_fault ⟨_, rfl⟩ hnf hops, ?_⟩
  rw [opsBefore_first hr hidle, hframe, List.append_assoc,
    run_startOps_fails (s := s.frameReady 0 0) _ _ _ hidle hfault]

/-- The first frame's `start` fails with nothing but the auxiliary outputs moved. -/
theorem frameReady_first_fails {s : State} (hidle : s.state = .idle) (r : Reason) :
    (s.frameReady 0 0).sampled.fail (.precondition r (some 0#3)) = { s.failedAtOnce (some 0#3) r 1 with
      dacReady := false
      chsel := 0#3
      chIdx := 0#3
      dacClkEn := true
      dacRst := false
      time := s.time + channelStart s.cfg 0
      trace := (bringUpEvents s.cfg s.time (!s.oe.data) 0 0 ++
        [Event.mk (s.time + channelStart s.cfg 0) (.chsel 0#3)]).reverse ++ s.trace } := by
  have hnf : s.state ≠ .fault := by rw [hidle]; nofun
  rw [frameReady_first, State.fail_outside_fault, State.failedAtOnce, List.drop_one]
  · rfl
  · exact hnf

/-- Settles O51: `dacInit_fails_at_end`, `dacInit_fails_at_start` and `dacInit_fails_at_first_start`. -/
theorem dacInitSurfacesAFrameFault : Obligations.DacInitSurfacesAFrameFault := by
  refine ⟨fun s c f hr hidle hlines hn hc hf hchannels hframes => ⟨fun hstart hend => ?_, fun hstart hlater => ?_⟩,
    fun s r hr hidle hn h => ?_⟩
  · exact dacInit_fails_at_end hr hidle hlines hn hc hf hchannels hframes hstart hend
  · exact dacInit_fails_at_start hr hidle hlines hn hc hf hchannels hframes hstart hlater
  · obtain ⟨t, hexec, hend⟩ := dacInit_fails_at_first_start hr hidle hn h
    exact ⟨t, hexec, hend.trans (frameReady_first_fails hidle r)⟩

end Sys2Proof.Machine
end

section
/-! SUPPORT. DAC accesses (R181, R186, R190): `chsel`, then the frame of the access, with the channel in every record. -/

namespace Sys2Proof.Machine

/-! ### A whole frame as the last part of a command -/

/-- The last post-checks put the channel of the access into the record (R181). -/
theorem ranFrame_completes_on (ch : Option Channel) {s : State} (hidle : s.state = .idle) (d k : Nat) (b : Byte)
    (evs : List Event) :
    run [.postChecks ch] (s.accepted.ranFrame d k b evs) = s.afterFrame ch d (k + 1) b evs := by
  have hnf : s.state ≠ .fault := by rw [hidle]; nofun
  have hpins : (s.accepted.ranFrame d k b evs).pinsAt 0 = s.pinsAt k := pinsAt_later rfl rfl 0
  have hlast := ranFrame_completes hidle d k b evs
  rw [run_postChecks_last _ rfl hnf, hpins] at hlast ⊢
  exact congrArg (fun u : State => { u with fault := endRecord ch (s.pinsAt k) }) hlast

theorem ranFrame_staged_completes_on (ch : Option Channel) {s : State} (hidle : s.state = .idle) (d k : Nat) (b r : Byte)
    (evs : List Event) :
    run [.postChecks ch] ((s.accepted.ranFrame d k b evs).staged r) =
      { s.afterFrame ch d (k + 1) b evs with rdata := r } := by
  have hnf : s.state ≠ .fault := by rw [hidle]; nofun
  have hlast := ranFrame_completes_on ch hidle d k b evs
  rw [run_postChecks_last ch rfl hnf] at hlast ⊢
  exact congrArg (fun u : State => { u with rdata := r }) hlast

/-- The frame of an access, with the event of `chsel` before its own (R180). -/
theorem setChsel_afterFrame (s : State) (c : Channel) (ch : Option Channel) (d k : Nat) (b : Byte) (evs : List Event) :
    (s.setChsel c).afterFrame ch d k b evs =
      { s.afterFrame ch d k b (⟨s.time, .chsel c⟩ :: evs) with chsel := c } := by
  rw [State.afterFrame, State.afterFrame, List.reverse_cons, List.append_assoc]
  rfl

/-! ### Accesses -/

section
variable {i : Instr} {s : State} {c : Channel} {frame : List Micro} (henc : ∃ w, encode i = .cmd w)
  (hops : programOf s.cfg i = accessOps c frame)
include henc hops

/-- From `Idle` an access selects its channel in the instant of its acceptance, and its frame follows (R181). -/
theorem exec_access_idle (hidle : s.state = .idle) : exec i s = .next (run frame (s.setChsel c).accepted) := by
  have hnf : s.state ≠ .fault := by rw [hidle]; nofun
  rw [exec_outside_fault henc hnf hops, run_requireIdle_passes (s := s.accepted) hidle, run_go rfl]
  rfl

theorem exec_access_outside_idle (hnf : s.state ≠ .fault) (hs : s.state ≠ .idle) :
    exec i s = .next (s.failedAtOnce (some c) .state 0) := by
  rw [exec_outside_fault henc hnf hops, run_requireIdle_fails (s := s.accepted) hs, accepted_fail_precondition hnf]

end

/-- A write access and a read access are each `chsel` and a frame, which begins with `start` (R141, R181). -/
theorem programOf_dacAccess (cfg : Params) {c : Channel} {reg data : Byte} {i : Instr}
    (hi : i ∈ [Instr.dacWrite c reg data, .dacRead c reg]) :
    (∃ w, encode i = .cmd w) ∧ ∃ rest, programOf cfg i = accessOps c (startOps cfg (some c) ++ rest) := by
  simp only [List.mem_cons, List.not_mem_nil, or_false] at hi
  obtain rfl | rfl := hi
  · exact ⟨⟨_, rfl⟩, _, congrArg (accessOps c) (writeFrame_eq ..)⟩
  · exact ⟨⟨_, rfl⟩, _, congrArg (accessOps c) (readFrame_eq ..)⟩

/-- Settles O44: no statement of the frame moves `chsel` again, and the frame ends the command with the channel. -/
theorem dacWriteRunsItsFrame : Obligations.DacWriteRunsItsFrame := by
  intro s c reg data hr h
  have hs : (s.setChsel c).accepted.BetweenWaits := ⟨hr, rfl, rfl, rfl⟩
  have hrun := writeFrame_runs (s := (s.setChsel c).accepted) hs h (some c) (writeInstruction reg) data []
  rw [List.append_nil] at hrun
  refine ⟨_, exec_access_idle ⟨_, rfl⟩ rfl h.1, (run_sameAux (writeFrame_ofTransport s.cfg _ _ _) _).chsel, ?_⟩
  rw [← setChsel_afterFrame]
  exact hrun.trans (ranFrame_completes_on (some c) (s := s.setChsel c) h.1 ..)

/-- Settles O45: as for a write, and the byte staged before `end` is committed whatever the post-checks say. -/
theorem dacReadRunsItsFrame : Obligations.DacReadRunsItsFrame := by
  intro s c reg hr h
  have hs : (s.setChsel c).accepted.BetweenWaits := ⟨hr, rfl, rfl, rfl⟩
  have hrun := readFrame_runs (s := (s.setChsel c).accepted) hs h (some c) (readInstruction reg) []
  have hselected := setChsel_afterFrame s c (some c) (readTicks s.cfg) 10 (s.byteAt 1)
    (readEvents s.cfg s.time (!s.oe.data) (readInstruction reg))
  rw [List.append_nil] at hrun
  refine ⟨_, exec_access_idle ⟨_, rfl⟩ rfl h.1, (run_sameAux (readFrame_ofTransport s.cfg _ _) _).chsel, ?_⟩
  rw [← readInstruction_eq_or]
  exact (hrun.trans (ranFrame_staged_completes_on (some c) (s := s.setChsel c) h.1 ..)).trans
    (congrArg (fun u : State => { u with rdata := s.byteAt 1 }) hselected)

/-- Settles O46: the check of `state` stands before `chsel`, and the checks of the lines are the first of the frame. -/
theorem dacAccessReportsItsChannel : Obligations.DacAccessReportsItsChannel := by
  intro s c reg data hnf i hi
  obtain ⟨henc, rest, hops⟩ := programOf_dacAccess s.cfg hi
  refine ⟨exec_access_outside_idle henc hops hnf, fun hidle r hr => ?_⟩
  rw [exec_access_idle henc hops hidle, run_startOps_fails (s := (s.setChsel c).accepted) _ _ _ hidle hr,
    accepted_sampled_fail_precondition (s := s.setChsel c) hnf]
  rfl

end Sys2Proof.Machine
end

section
/-! SUPPORT. How a bring-up ends (R200, R201, R204, R205): refused outside `Idle`, with a byte that is not the one asked
for, or with all channels passed. -/

namespace Sys2Proof.Machine

/-! ### Outside `Idle` -/

/-- Settles O47: `DAC_READY` is staged as 0 before the check of `state`, which fails. -/
theorem dacInitNeedsIdle : Obligations.DacInitNeedsIdle := by
  intro s hs
  have ⟨hidle, hnf⟩ : s.state ≠ .idle ∧ s.state ≠ .fault := by obtain hs | hs := hs <;> rw [hs] <;> decide
  have hstaged : ({ s.accepted with stagedReady := some false } : State).state ≠ .idle := hidle
  obtain ⟨rest, hops⟩ : ∃ rest, programOf s.cfg .dacInit = gated (.stageReady false :: .requireIdle none :: rest) :=
    ⟨_, rfl⟩
  rw [exec_outside_fault ⟨_, rfl⟩ hnf hops, run_go rfl, run_requireIdle_fails hstaged, State.fail_outside_fault hnf]
  rfl

/-! ### The check after a frame -/

/-- After the frame come its check and the selection for the next. -/
theorem opsBefore_succ (cfg : Params) (c f : Nat) : opsBefore cfg c (f + 1) = opsBefore cfg c f ++
    (frameOps cfg (BitVec.ofNat 3 c) f ++ (checkOps (BitVec.ofNat 3 c) f ++ selectOps (BitVec.ofNat 3 c))) := by
  simp only [opsBefore, List.range_succ, List.flatMap_append, List.flatMap_singleton, accessBlock, List.append_assoc]

/-- Every frame but a channel's last stands in `DAC_INIT` with its check right after it. -/
theorem dacInitOps_check_at {cfg : Params} {c f : Nat} (hc : c < cfg.nCh) (hf : f < 3) :
    ∃ rest, dacInitOps cfg = gated (opsBefore cfg c f ++
      (frameOps cfg (BitVec.ofNat 3 c) f ++ (checkOps (BitVec.ofNat 3 c) f ++ rest))) := by
  obtain ⟨rest, hops⟩ := dacInitOps_at hc (f := f + 1) (by omega)
  rw [hops, opsBefore_succ]
  simp only [List.append_assoc]
  exact ⟨_, rfl⟩

section
variable {s : State} (hr : s.rst = false) (hidle : s.state = .idle) (hlines : LinesReady s) {c f : Nat}
  (hn : s.cfg.nCh ≤ 8) (hc : c < s.cfg.nCh) (hf : f < 3) (hchannels : ∀ c', c' < c → ChannelPasses s c')
  (hframes : ∀ f', f' < f → FramePasses s c f') (hstart : Quiet (s.pinsAtStart c f)) (hend : Quiet (s.pinsAtEnd c f))
include hr hidle hlines hn hc hf hchannels hframes hstart hend

/-- A check that does not hold after a frame that has run ends the command with its record (R231). -/
theorem dacInit_fails_at_check {r : FaultRec} (hcheck : ∀ rest, run (checkOps (BitVec.ofNat 3 c) f ++ rest)
      (s.frameDone c (f + 1)) = (s.frameDone c (f + 1)).fail r) :
    ∃ t, exec .dacInit s = .next t ∧
      ticks (channelStart s.cfg c + frameStart s.cfg (f + 1)) t = s.bringUpFails c f r := by
  have hnf : s.state ≠ .fault := by rw [hidle]; nofun
  have hf4 : f < 4 := by omega
  obtain ⟨rest, hops⟩ := dacInitOps_check_at hc hf
  have hbefore := opsBefore_pass hr hidle hlines (c := c) (f := f) (by omega) (by omega) hchannels hframes
  have hframe := frameOps_pass hr hidle hlines hf4 hstart hend
  refine ⟨_, exec_outside_fault ⟨_, rfl⟩ hnf hops, ?_⟩
  rw [frameStart_succ _ hf4, ← Nat.add_assoc, ← frameTick, ticks_add, hbefore, hframe, hcheck]
  exact bringUpNow_fails hidle ..

end

/-- Settles O49: `checkRev` compares the byte that the first frame has left in `shift`. -/
theorem dacInitStopsAtAWrongRevision : Obligations.DacInitStopsAtAWrongRevision := by
  intro s c hr hidle hlines hn hc hchannels hstart hend hrev
  have hact : act (.checkRev (BitVec.ofNat 3 c)) (s.frameDone c 1) =
      .stop (.revision (BitVec.ofNat 3 c) (s.byteAt (24 * c + 1))) (s.frameDone c 1) := if_pos hrev
  exact dacInit_fails_at_check hr hidle hlines hn hc (by decide) hchannels (fun _ hf => absurd hf (Nat.not_lt_zero _))
    hstart hend (run_stop hact)

/-- Settles O50: `checkRetime` masks the byte that the second frame has left in `shift`. -/
theorem dacInitStopsAtARetimeFailure : Obligations.DacInitStopsAtARetimeFailure := by
  intro s c hr hidle hlines hn hc hchannels hfirst hstart hend hretime
  have hframes : ∀ f', f' < 1 → FramePasses s c f' := fun f' hf' => Nat.lt_one_iff.1 hf' ▸ hfirst
  have hact : act (.checkRetime (BitVec.ofNat 3 c)) (s.frameDone c 2) =
      .stop (.retime (BitVec.ofNat 3 c) (s.byteAt (24 * c + 11))) (s.frameDone c 2) := if_pos hretime
  exact dacInit_fails_at_check hr hidle hlines hn hc (by decide) hchannels hframes hstart hend (run_stop hact)

/-! ### All channels passed -/

/-- The last channel done, `DAC_READY` is staged as 1 and committed (R205, R225). -/
theorem channelDone_completes {s : State} (hidle : s.state = .idle) (c : Nat) :
    run [.stageReady true] (s.channelDone c) = s.bringUpEnd c 4 (channelStart s.cfg (c + 1)) (24 * (c + 1))
      (bringUpEvents s.cfg s.time (!s.oe.data) (c + 1) 0) none := by
  have hnf : s.state ≠ .fault := by rw [hidle]; nofun
  rw [run_go rfl, run_nil, State.ok_outside_fault hnf, State.bringUpEnd, ← hidle]
  rfl

/-- Settles O48: `channels_pass` for all channels, and the last of them has been done. -/
theorem dacInitPassesOnGoodChannels : Obligations.DacInitPassesOnGoodChannels := by
  intro s hr hidle hlines hpos hn hchannels
  have hnf : s.state ≠ .fault := by rw [hidle]; nofun
  obtain ⟨c, hc⟩ : ∃ c, s.cfg.nCh = c + 1 := Nat.exists_eq_add_of_le' hpos
  have hpass := channels_pass hr hidle hlines hn hchannels [.stageReady true]
  refine ⟨_, exec_outside_fault ⟨_, rfl⟩ hnf (dacInitOps_eq s.cfg), ?_⟩
  rw [hpass, hc]
  exact channelDone_completes hidle c

end Sys2Proof.Machine
end

section
/-! SUPPORT. Completion, and the commands of state `Fault` (R225, R226, R229). -/

namespace Sys2Proof.Machine

/-! ### Completion -/

/-- `ok` and `fail` leave the sequencer idle and commit what is staged; all else stays (R225). -/
theorem State.complete_eq_atRest (s : State) : s.complete = { s.atRest s.stateAtAccept with
    rdata := s.stagedRdata.getD s.rdata
    dacReady := s.stagedReady.getD s.dacReady } := rfl

/-- Settles O25: `ok` and `fail` commit the staged values in `complete`, and each adds `ERR` and `FAULT`. -/
theorem completionCommitsTogether : Obligations.CompletionCommitsTogether := by
  intro s r
  constructor
  · rw [State.ok, State.complete_eq_atRest]
  · rw [State.fail, State.complete_eq_atRest]

/-! ### State `Fault` -/

/-- A command accepted in state `Fault` that fails leaves `FAULT` frozen (R229). -/
theorem accepted_fail_in_fault {s : State} (hs : s.state = .fault) (r : FaultRec) :
    s.accepted.fail r = { s.atRest .fault with err := true } := by
  have hacc : s.accepted.stateAtAccept = .fault := hs
  rw [State.fail, if_pos hacc, State.complete_eq_atRest, hacc]
  rfl

/-- The commands that R229 names are command words, and the gate of R229 is their first statement. -/
theorem programOf_transport (cfg : Params) {i : Instr} (hi : isTransport i = true) :
    (∃ w, encode i = .cmd w) ∧ ∃ ms, programOf cfg i = gated ms := by
  cases i
  case tInit | tStart | tEnd | tWrite | tRead | dacWrite | dacRead | dacInit => exact ⟨⟨_, rfl⟩, _, rfl⟩
  all_goals cases hi

/-- Settles O52: the gate fails at once, whatever statements follow it. -/
theorem faultStateFailsEveryTransportCommand : Obligations.FaultStateFailsEveryTransportCommand := by
  intro s i hs hi
  obtain ⟨henc, ms, hops⟩ := programOf_transport s.cfg hi
  rw [exec_eq_run henc, hops, run_gated_in_fault (s := s.accepted) hs, accepted_fail_in_fault hs]

end Sys2Proof.Machine
end

section
/-! SUPPORT. The parameters, the block under `rst`, and the block between commands (R239, R260, R261, R277). -/

namespace Sys2Proof.Machine

/-! ### The parameters -/

theorem tick_cfg (s : State) : (tick s).cfg = s.cfg := by
  cases hr : s.rst with
  | true => rw [tick_held s hr]
  | false => exact (tick_cfg_time hr).1

/-- No input changes a parameter (R277). -/
theorem Reaction.cfg {s t : State} {input : Input} (h : Reaction s input t) : t.cfg = s.cfg := by
  cases h with
  | tick => exact tick_cfg s
  | rst level => cases level <;> rfl
  | read off width =>
    obtain ⟨ds, n, w, he⟩ := busRead_eq off s
    rw [he]
  | device drives =>
    obtain ⟨c, he⟩ := setDevice_eq drives s
    rw [he]
  | ignored => rfl
  | overrun => rfl
  | accepted w hr hb => exact (run_keeps (wordOps s.cfg w) ({ s with curCmd := w } : State).accepted).1

/-- Settles O57: whatever the next input is, the block's answer to it keeps the parameters. -/
theorem parametersNeverChange : Obligations.ParametersNeverChange := by
  intro s t h
  exact (step_cases h).cfg

/-! ### Under `rst` -/

theorem accessRefusal_admitted {off : Nat} (haligned : off % 4 = 0) (hin : off < 32) : accessRefusal off 4 = none := by
  rw [accessRefusal, if_neg (by simp [haligned]), if_neg (Nat.not_le.mpr hin)]

/-- The block ignores every admitted write under `rst` (R260). -/
theorem busWrite_held {s : State} (hr : s.rst = true) (off : Nat) (v : Word) : busWrite off v s = .next s := by
  unfold busWrite
  rw [if_pos hr]

/-- At reset the registers but `LINES` read what they read in the reset state, whatever the environment and the model's
records hold. -/
theorem State.AtReset.registerWord_eq_reset {s : State} (h : s.AtReset) (pins : Levels) (off : Nat) :
    registerWord s pins off = registerWord State.reset pins off := by
  rw [h]
  rfl

/-- At reset every register but `LINES`, which shows the input ports, reads 0 (R46). -/
theorem State.AtReset.registerWord {s : State} (h : s.AtReset) (pins : Levels) {off : Nat} (hoff : off ≠ 0x10) :
    registerWord s pins off = 0#32 := by
  rw [h.registerWord_eq_reset]
  unfold Machine.registerWord
  split
  case h_5 => exact absurd rfl hoff
  all_goals decide

/-- At reset only the input ports show in `LINES` (R42, R46). -/
theorem State.AtReset.linesWord {s : State} (h : s.AtReset) (pins : Levels) :
    s.linesWord pins = 0#21 ++ pins.bits ++ 0#8 := by
  have hzeros : ∀ b : BitVec 3, (0#21 ++ b ++ 0#1 ++ 0#3 ++ 0#1 ++ 0#3 : Word) = 0#21 ++ b ++ 0#8 := by decide
  calc s.linesWord pins
    _ = State.reset.linesWord pins := h.registerWord_eq_reset pins 0x10
    _ = 0#21 ++ pins.bits ++ 0#8 := hzeros pins.bits

/-- The inputs still to come are no part of the block's own state. -/
theorem State.AtReset.withInputs {s : State} (h : s.AtReset) (ins : List Input) :
    ({ s with inputs := ins } : State).AtReset :=
  congrArg (fun u : State => { u with inputs := ins }) h

/-- Settles O23: `rst` holds ticks (`tick_held`) and writes (`busWrite_held`), and the registers stand at their reset
values. -/
theorem heldResetIgnoresTheHost : Obligations.HeldResetIgnoresTheHost := by
  intro s rest hr
  refine ⟨?ticks, ?writes, ?reads, ?lines⟩
  case ticks =>
    intro h
    rw [step_of_inputs h, react, tick_held { s with inputs := rest } hr]
  case writes =>
    intro off v haligned hin h
    rw [step_write h (accessRefusal_admitted haligned hin), busWrite_held (s := { s with inputs := rest }) hr]
  case reads =>
    intro off hs hoff h
    have hadmitted : ∀ o ∈ [0x00, 0x04, 0x08, 0x0C, 0x14, 0x18, 0x1C], accessRefusal o 4 = none ∧ o ≠ 0x10 := by decide
    obtain ⟨hnone, hne⟩ := hadmitted off hoff
    rw [step_read h hnone, busRead, if_neg hne, (hs.withInputs rest).registerWord _ hne]
  case lines =>
    intro hs h
    rw [step_read h rfl, busRead_lines, (hs.withInputs rest).linesWord]
    rfl

/-! ### Between commands -/

theorem step_of_no_input {s : State} (h : s.inputs = []) : step s = .next (tick s) := by
  simp only [step, nextInput, h, react]

/-- Settles O24: the release of `rst` moves that port alone, and a tick without a command moves the time alone
(`ticks_idle`). -/
theorem idleBlockDoesNothingOnItsOwn : Obligations.IdleBlockDoesNothingOnItsOwn := by
  refine ⟨?release, ?between, ?noInput⟩
  case release =>
    intro s rest h
    rw [step_of_inputs h]
    rfl
  case between =>
    intro s hr hb n
    exact ticks_idle hr hb n
  case noInput =>
    intro s h
    exact step_of_no_input h

end Sys2Proof.Machine
end
